-- ==== Sys2Proof/Word.lean ====
section
/-! DEFINITION. The word types of MM-H264-CORE: bytes of memory (20_memory.md R106), 32-bit registers (10_state.md R60) and two-component vectors. -/

namespace Sys2Proof

/-- One byte of memory, one sample or one bitstream byte (20_memory.md R106). -/
abbrev Byte := BitVec 8

/-- One 32-bit register word (10_state.md R60). -/
abbrev Word := BitVec 32

/-- A two-component vector: a motion vector in quarter samples, its difference, or its absolute difference (10_state.md R48). -/
structure Mv where
  x : Int
  y : Int
  deriving DecidableEq, Repr

/-- The zero vector. -/
def Mv.zero : Mv := ⟨0, 0⟩

end Sys2Proof
end

