-- ==== Sys2Proof/Config.lean ====
section
/-! DEFINITION. The free values and the OPEN tables of the spec: constants with no body, so that no proof can see what they are (00_scope.md R11, 93_implementation_defined.md Part 1). -/

/-! ## What the OPEN engine holds and does (45_cabac_syntax.md R500) -/

namespace Sys2Proof.Machine

/-- A CABAC context (45_cabac_syntax.md R500). -/
structure Ctx where
  pStateIdx : Nat
  valMps : Nat
  deriving DecidableEq, Repr, Inhabited

/-- The arithmetic codeword of the bins decoded since `InitEngine`, as the procedures of R502 measure it: the contexts and the range that they reach on these bins, and the bit that follows those they have read (R504). -/
structure Codeword where
  ctx : List Ctx
  range : BitVec 9
  stop : Nat
  deriving DecidableEq, Repr, Inhabited

/-- The CABAC engine's contexts and its two 9-bit registers `codIRange`, `codIOffset` (45_cabac_syntax.md R500); `codeword` measures the cursor that R504 demands of an engine taken as an oracle: it is the model's own, and an engine of the procedures of R502 only starts it (log entry 45). -/
structure Cabac where
  ctx : List Ctx
  range : BitVec 9
  offset : BitVec 9
  codeword : Codeword
  deriving DecidableEq, Repr, Inhabited

/-- The operations by which the core gets a bin. -/
inductive EngineOp where
  | decision (ctxIdx : Nat)
  | bypass
  | terminate
  deriving DecidableEq, Repr

/-- What an oracle answers to one of them: the bin, how many bits it would read, and what the engine holds after it; the codeword is not the oracle's to say. -/
structure EngineTurn where
  bin : Bool
  reads : Nat
  after : Cabac
  deriving DecidableEq, Repr, Inhabited

end Sys2Proof.Machine

namespace Sys2Proof.Config
open Machine

/-- The byte a memory cell holds that nothing has written (92_eei_decisions.md D14): a free value per address. -/
opaque freeByte : Nat → Byte

/-- The byte a sample of a newly allocated frame holds (92_eei_decisions.md D14, D43): a free value per allocation, drawn with the counter, and address. -/
opaque freeSample : Nat → Nat → Byte

/-- A free register word, drawn with the counter `freeCtr` of State (70_reset_and_hazards.md R867). -/
opaque freeWord : Nat → Word

/-- A free choice, drawn with the counter (70_reset_and_hazards.md R867: before, after or part-way). -/
opaque freeChoice : Nat → Nat

/-- A free integer, drawn with the counter (49_reflist.md R750: the history of POC types 1 and 2 "written the same way and not read"). -/
opaque freeInt : Nat → Int

/-- The entries of `CoeffTokenTable[nCClass]` (class 0..4) that 44_mb_syntax.md R463 does not list: (code, TrailingOnes, TotalCoeff). -/
opaque coeffTokenRest : Nat → List (List Bool × Nat × Nat)

/-- The entries of `TotalZerosTable4x4[TotalCoeff]` that R466 does not list. -/
opaque totalZerosRest4x4 : Nat → List (List Bool × Nat)

/-- The entries of `TotalZerosTableChromaDC[TotalCoeff]` that R466 does not list. -/
opaque totalZerosRestDc : Nat → List (List Bool × Nat)

/-- `CabacInitMN[initType][ctxIdx]` (45_cabac_syntax.md R501), initType 0 for I slices and `cabac_init_idc + 1` else. -/
opaque cabacInitMN : Nat → Nat → Int × Int

/-- `RangeTabLPS[64][4]` (45_cabac_syntax.md R502). -/
opaque rangeTabLps : Nat → Nat → BitVec 8

/-- `TransIdxLPS[64]` (45_cabac_syntax.md R502). -/
opaque transIdxLps : Nat → BitVec 6

/-- `CabacEngine` taken as an oracle (00_scope.md R11, 92_eei_decisions.md D25): what an operation does, from what the engine holds and the bits from the cursor to the end of the RBSP. -/
opaque cabacOracle : EngineOp → Cabac → List Bool → EngineTurn

end Sys2Proof.Config
end

