-- ==== Sys2Proof/Syntax.lean ====
section
/-! DEFINITION. The operations of MM-H264-CORE: one constructor per row of spec/opcode_table.json (30_encoding.md R158), and the code spaces their codes live in (R140-R153). -/

namespace Sys2Proof

/-- The `ce(v)` elements of the CAVLC residual (44_mb_syntax.md R463-R466), with the context that selects their table. -/
inductive CeElem where
  | coeffToken (nC : Int)
  | levelPrefix
  | levelSuffix (size : Nat)
  | totalZeros (chromaDc : Bool) (totalCoeff : Nat)
  | runBefore (zerosLeft : Nat)
  deriving DecidableEq, Repr

/-- The `ae(v)` elements of 45_cabac_syntax.md R507; list `x`, partition `p`, sub-partition `s`, component `c`, block category `cat`, plane (0 Y, 1 Cb, 2 Cr) and block index are their operands. -/
inductive AeElem where
  | mbSkipFlag
  | mbType
  | subMbType
  | transformSize8x8Flag
  | prevIntraPredModeFlag
  | remIntraPredMode
  | intraChromaPredMode
  | codedBlockPattern
  | refIdx (x p : Nat)
  | mvd (x p s c : Nat)
  | mbQpDelta
  | endOfSliceFlag
  | codedBlockFlag (cat plane blk : Nat)
  | significantCoeffFlag (cat i : Nat)
  | lastSignificantCoeffFlag (cat i : Nat)
  | coeffAbsLevelMinus1 (cat numGt1 numEq1 : Nat)
  | coeffSignFlag
  deriving DecidableEq, Repr

/-- The operations: one constructor per row of the opcode table, the rows with operands first (the compiler bounds the index of a constructor with fields). -/
inductive Instr where
  -- CMD
  | srst
  | nal
  | auEnd
  | release
  -- DESC
  | descU (n : Nat)
  | descF (n : Nat)
  | descUv (n : Nat)
  | descUe
  | descSe
  | descTe (cMax : Nat)
  | descMe (intra : Bool)
  | descCe (e : CeElem)
  | descAe (e : AeElem)
  -- NALHDR
  | nalType0 (refIdc : BitVec 2)
  | nalSlice (refIdc : BitVec 2)
  | nalType2 (refIdc : BitVec 2)
  | nalType3 (refIdc : BitVec 2)
  | nalType4 (refIdc : BitVec 2)
  | nalIdr (refIdc : BitVec 2)
  | nalType6 (refIdc : BitVec 2)
  | nalSps (refIdc : BitVec 2)
  | nalPps (refIdc : BitVec 2)
  | nalType9 (refIdc : BitVec 2)
  | nalType10 (refIdc : BitVec 2)
  | nalType11 (refIdc : BitVec 2)
  | nalType12 (refIdc : BitVec 2)
  | nalType13 (refIdc : BitVec 2)
  | nalType14 (refIdc : BitVec 2)
  | nalType15 (refIdc : BitVec 2)
  | nalType16 (refIdc : BitVec 2)
  | nalType17 (refIdc : BitVec 2)
  | nalType18 (refIdc : BitVec 2)
  | nalType19 (refIdc : BitVec 2)
  | nalType20 (refIdc : BitVec 2)
  | nalType21 (refIdc : BitVec 2)
  | nalType22 (refIdc : BitVec 2)
  | nalType23 (refIdc : BitVec 2)
  | nalType24 (refIdc : BitVec 2)
  | nalType25 (refIdc : BitVec 2)
  | nalType26 (refIdc : BitVec 2)
  | nalType27 (refIdc : BitVec 2)
  | nalType28 (refIdc : BitVec 2)
  | nalType29 (refIdc : BitVec 2)
  | nalType30 (refIdc : BitVec 2)
  | nalType31 (refIdc : BitVec 2)
  | nalForbidden (rest : BitVec 7)
  -- RPLM
  | rplmSub (v : Nat)
  | rplmAdd (v : Nat)
  | rplmLong (v : Nat)
  | rplmEnd
  -- MMCO
  | mmcoEnd
  | mmcoShortUnused (diff : Nat)
  | mmcoLongUnused (num : Nat)
  | mmcoShortToLong (diff idx : Nat)
  | mmcoMaxLongIdx (plus1 : Nat)
  | mmcoAllUnused
  | mmcoCurToLong (idx : Nat)
  -- SLICETYPE
  | sliceP
  | sliceB
  | sliceI
  | sliceSp
  | sliceSi
  | slicePAll
  | sliceBAll
  | sliceIAll
  | sliceSpAll
  | sliceSiAll
  -- MBTYPE_I
  | iNxN
  | i_16x16_0_0_0
  | i_16x16_1_0_0
  | i_16x16_2_0_0
  | i_16x16_3_0_0
  | i_16x16_0_1_0
  | i_16x16_1_1_0
  | i_16x16_2_1_0
  | i_16x16_3_1_0
  | i_16x16_0_2_0
  | i_16x16_1_2_0
  | i_16x16_2_2_0
  | i_16x16_3_2_0
  | i_16x16_0_0_1
  | i_16x16_1_0_1
  | i_16x16_2_0_1
  | i_16x16_3_0_1
  | i_16x16_0_1_1
  | i_16x16_1_1_1
  | i_16x16_2_1_1
  | i_16x16_3_1_1
  | i_16x16_0_2_1
  | i_16x16_1_2_1
  | i_16x16_2_2_1
  | i_16x16_3_2_1
  | iPcm
  -- MBTYPE_P
  | pL0_16x16
  | pL0L0_16x8
  | pL0L0_8x16
  | p8x8
  | p8x8ref0
  | pINxN
  | pI_16x16_0_0_0
  | pI_16x16_1_0_0
  | pI_16x16_2_0_0
  | pI_16x16_3_0_0
  | pI_16x16_0_1_0
  | pI_16x16_1_1_0
  | pI_16x16_2_1_0
  | pI_16x16_3_1_0
  | pI_16x16_0_2_0
  | pI_16x16_1_2_0
  | pI_16x16_2_2_0
  | pI_16x16_3_2_0
  | pI_16x16_0_0_1
  | pI_16x16_1_0_1
  | pI_16x16_2_0_1
  | pI_16x16_3_0_1
  | pI_16x16_0_1_1
  | pI_16x16_1_1_1
  | pI_16x16_2_1_1
  | pI_16x16_3_1_1
  | pI_16x16_0_2_1
  | pI_16x16_1_2_1
  | pI_16x16_2_2_1
  | pI_16x16_3_2_1
  | pIPcm
  | pSkip
  -- MBTYPE_B
  | bDirect16x16
  | bL0_16x16
  | bL1_16x16
  | bBi_16x16
  | bL0L0_16x8
  | bL0L0_8x16
  | bL1L1_16x8
  | bL1L1_8x16
  | bL0L1_16x8
  | bL0L1_8x16
  | bL1L0_16x8
  | bL1L0_8x16
  | bL0Bi_16x8
  | bL0Bi_8x16
  | bL1Bi_16x8
  | bL1Bi_8x16
  | bBiL0_16x8
  | bBiL0_8x16
  | bBiL1_16x8
  | bBiL1_8x16
  | bBiBi_16x8
  | bBiBi_8x16
  | b8x8
  | bINxN
  | bI_16x16_0_0_0
  | bI_16x16_1_0_0
  | bI_16x16_2_0_0
  | bI_16x16_3_0_0
  | bI_16x16_0_1_0
  | bI_16x16_1_1_0
  | bI_16x16_2_1_0
  | bI_16x16_3_1_0
  | bI_16x16_0_2_0
  | bI_16x16_1_2_0
  | bI_16x16_2_2_0
  | bI_16x16_3_2_0
  | bI_16x16_0_0_1
  | bI_16x16_1_0_1
  | bI_16x16_2_0_1
  | bI_16x16_3_0_1
  | bI_16x16_0_1_1
  | bI_16x16_1_1_1
  | bI_16x16_2_1_1
  | bI_16x16_3_1_1
  | bI_16x16_0_2_1
  | bI_16x16_1_2_1
  | bI_16x16_2_2_1
  | bI_16x16_3_2_1
  | bIPcm
  | bSkip
  -- SUBMB_P
  | subPL0_8x8
  | subPL0_8x4
  | subPL0_4x8
  | subPL0_4x4
  -- SUBMB_B
  | subBDirect_8x8
  | subBL0_8x8
  | subBL1_8x8
  | subBBi_8x8
  | subBL0_8x4
  | subBL0_4x8
  | subBL1_8x4
  | subBL1_4x8
  | subBBi_8x4
  | subBBi_4x8
  | subBL0_4x4
  | subBL1_4x4
  | subBBi_4x4
  -- I4X4MODE
  | intra4x4Vertical
  | intra4x4Horizontal
  | intra4x4Dc
  | intra4x4DiagDownLeft
  | intra4x4DiagDownRight
  | intra4x4VerticalRight
  | intra4x4HorizontalDown
  | intra4x4VerticalLeft
  | intra4x4HorizontalUp
  -- I8X8MODE
  | intra8x8Vertical
  | intra8x8Horizontal
  | intra8x8Dc
  | intra8x8DiagDownLeft
  | intra8x8DiagDownRight
  | intra8x8VerticalRight
  | intra8x8HorizontalDown
  | intra8x8VerticalLeft
  | intra8x8HorizontalUp
  -- I16X16MODE
  | intra16x16Vertical
  | intra16x16Horizontal
  | intra16x16Dc
  | intra16x16Plane
  -- CHROMAMODE
  | chromaDc
  | chromaHorizontal
  | chromaVertical
  | chromaPlane
  -- QPEL_LUMA
  | qpel00G
  | qpel01d
  | qpel02h
  | qpel03n
  | qpel10a
  | qpel11e
  | qpel12i
  | qpel13p
  | qpel20b
  | qpel21f
  | qpel22j
  | qpel23q
  | qpel30c
  | qpel31g
  | qpel32k
  | qpel33r
  -- CPEL_CHROMA
  | cpel00
  | cpel01
  | cpel02
  | cpel03
  | cpel04
  | cpel05
  | cpel06
  | cpel07
  | cpel10
  | cpel11
  | cpel12
  | cpel13
  | cpel14
  | cpel15
  | cpel16
  | cpel17
  | cpel20
  | cpel21
  | cpel22
  | cpel23
  | cpel24
  | cpel25
  | cpel26
  | cpel27
  | cpel30
  | cpel31
  | cpel32
  | cpel33
  | cpel34
  | cpel35
  | cpel36
  | cpel37
  | cpel40
  | cpel41
  | cpel42
  | cpel43
  | cpel44
  | cpel45
  | cpel46
  | cpel47
  | cpel50
  | cpel51
  | cpel52
  | cpel53
  | cpel54
  | cpel55
  | cpel56
  | cpel57
  | cpel60
  | cpel61
  | cpel62
  | cpel63
  | cpel64
  | cpel65
  | cpel66
  | cpel67
  | cpel70
  | cpel71
  | cpel72
  | cpel73
  | cpel74
  | cpel75
  | cpel76
  | cpel77
  -- XFORM
  | idct4x4
  | dequantBranches
  | lumaDc4x4
  | chromaDc2x2
  | chromaAc
  | idct8x8
  | reconClip
  | zeroBlock
  | dcOnly4x4
  -- SGMAP
  | sgmap0Interleaved
  | sgmap1Dispersed
  | sgmap2Foreground
  | sgmap3BoxOut
  | sgmap4Raster
  | sgmap5Wipe
  | sgmap6Explicit
  -- POCTYPE
  | pocType0
  | pocType1
  | pocType2
  deriving DecidableEq, Repr

/-- The descriptors of 30_encoding.md R141 with their operands. -/
inductive Desc where
  | u (n : Nat)
  | f (n : Nat)
  | uv (n : Nat)
  | ue
  | se
  | te (cMax : Nat)
  | me (intra : Bool)
  | ce (e : CeElem)
  | ae (e : AeElem)
  deriving DecidableEq, Repr

/-- The code spaces (30_encoding.md R140-R153). `desc`, `skipP` and `skipB` have no code bits: the syntax itself selects the operation (R141, R148). -/
inductive Space where
  | cmd | nalHdr | sliceType | mbI | mbP | mbB | skipP | skipB | subP | subB
  | i4Mode | i8Mode | i16Mode | chromaMode | qpel | cpel | xform | rplm | mmco | sgMap | pocType
  | desc (d : Desc)
  deriving DecidableEq, Repr

end Sys2Proof
end

