-- ==== Sys2Proof/WellFormed.lean ====
section
/-! DEFINITION. Well-formed operations: the bounds the spec sets on their operands. -/

namespace Sys2Proof

/-- The context of a `ce(v)` element is one a table exists for (44_mb_syntax.md R463-R466). -/
def CeElem.wf : CeElem → Bool
  | .coeffToken nC => -1 ≤ nC
  | .levelPrefix => true
  | .levelSuffix n => n ≤ 28
  | .totalZeros dc t => 1 ≤ t && (if dc then t ≤ 3 else t ≤ 15)
  | .runBefore z => 1 ≤ z

/-- The operands of an `ae(v)` element name a list, partition, block and category that exist (45_cabac_syntax.md R507-R535). -/
def AeElem.wf : AeElem → Bool
  | .refIdx x p => x < 2 && p < 4
  | .mvd x p s c => x < 2 && p < 4 && s < 4 && c < 2
  | .codedBlockFlag cat plane blk => cat < 5 && plane < 3 && blk < 16
  | .significantCoeffFlag cat i | .lastSignificantCoeffFlag cat i => cat < 6 && i < 63
  | .coeffAbsLevelMinus1 cat _ _ => cat < 6
  | _ => true

/-- A `ue(v)` value: 0..2^32-2 (40_bitreader_nal.md R215). -/
def ueValue (v : Nat) : Bool := v < 2 ^ 32 - 1

/-- The operand bounds of an operation (30_encoding.md R141-R153). -/
def WellFormed : Instr → Bool
  | .descU n | .descF n | .descUv n => 1 ≤ n && n ≤ 32
  | .descTe c => 1 ≤ c
  | .descCe e => e.wf
  | .descAe e => e.wf
  | .rplmSub v | .rplmAdd v | .rplmLong v => ueValue v
  | .mmcoShortUnused v | .mmcoLongUnused v | .mmcoMaxLongIdx v | .mmcoCurToLong v => ueValue v
  | .mmcoShortToLong d i => ueValue d && ueValue i
  | _ => true

end Sys2Proof
end

