-- ==== Sys2Proof/Decode.lean ====
section
/-! DEFINITION. Decoding and encoding: bits, Exp-Golomb codes (30_encoding.md R142, R143; 40_bitreader_nal.md R215), the code spaces (R140-R153), and the numbering of opcode-table words. Total; every refusal has a name. -/

namespace Sys2Proof

/-- Why bits do not decode. -/
inductive DecodeError where
  /-- The bits end inside the code. -/
  | truncated
  /-- An Exp-Golomb prefix of more than 31 zeros (30_encoding.md R155). -/
  | malformed
  /-- A complete code whose value the space reserves, or a `CTRL` word that takes no command. -/
  | reserved
  deriving DecidableEq, Repr

/-- The value of bits written most significant first (20_memory.md R105). -/
def bitsToNat (bs : List Bool) : Nat := bs.foldl (fun a b => 2 * a + b.toNat) 0

/-- The `n` low bits of `v`, most significant first. -/
def natToBits : Nat → Nat → List Bool
  | 0, _ => []
  | n + 1, v => Nat.testBit v n :: natToBits n v

/-- The result of reading one code: its value, or the error, with the bits consumed until then. -/
inductive CodeRes (α : Type) where
  | ok (value : α) (used : Nat)
  | error (e : DecodeError) (used : Nat)
  deriving DecidableEq, Repr

/-- Apply a function to the value read. -/
def CodeRes.map {α β : Type} (f : α → β) : CodeRes α → CodeRes β
  | .ok v n => .ok (f v) n
  | .error e n => .error e n

/-- A further code read from the bits after this one. -/
def CodeRes.thenRead {α β : Type} (r : CodeRes α) (k : α → Nat → CodeRes β) : CodeRes β :=
  match r with
  | .error e n => .error e n
  | .ok v n => match k v n with
    | .ok w m => .ok w (n + m)
    | .error e m => .error e (n + m)

/-- The scan of a `ue(v)` codeword after `zeros` zero bits (40_bitreader_nal.md R215). -/
def ueScan (zeros : Nat) : List Bool → CodeRes Nat
  | [] => .error .truncated zeros
  | true :: rest =>
    if rest.length < zeros then .error .truncated (zeros + 1)
    else .ok (2 ^ zeros - 1 + bitsToNat (rest.take zeros)) (2 * zeros + 1)
  | false :: rest =>
    if zeros ≥ 31 then .error .malformed (zeros + 1) else ueScan (zeros + 1) rest

/-- `ue(v)`: 40_bitreader_nal.md R215. -/
def ueDecode (bs : List Bool) : CodeRes Nat := ueScan 0 bs

/-- The `ue(v)` codeword of `v` (30_encoding.md R142). -/
def ueEncode (v : Nat) : List Bool :=
  let l := Nat.log2 (v + 1)
  List.replicate l false ++ natToBits (l + 1) (v + 1)

/-- The `se(v)` value of code number `k` (30_encoding.md R143). -/
def seValue (k : Nat) : Int := if k % 2 = 1 then ((k + 1) / 2 : Nat) else -((k / 2 : Nat) : Int)

/-- The code number of the `se(v)` value `v` (95_test_vectors.md V1.1). -/
def seCode (v : Int) : Nat := if v > 0 then (2 * v - 1).toNat else (-2 * v).toNat

/-- `n` fixed bits. -/
def fixedDecode (n : Nat) (bs : List Bool) : CodeRes Nat :=
  if bs.length < n then .error .truncated bs.length else .ok (bitsToNat (bs.take n)) n

/-- The code space `sliceType`: SLICETYPE rows of the opcode table. -/
def sliceTypeOf : Nat → Option Instr
  | 0 => some .sliceP
  | 1 => some .sliceB
  | 2 => some .sliceI
  | 3 => some .sliceSp
  | 4 => some .sliceSi
  | 5 => some .slicePAll
  | 6 => some .sliceBAll
  | 7 => some .sliceIAll
  | 8 => some .sliceSpAll
  | 9 => some .sliceSiAll
  | _ => none

/-- The code space `mbI`: MBTYPE_I rows of the opcode table. -/
def mbIOf : Nat → Option Instr
  | 0 => some .iNxN
  | 1 => some .i_16x16_0_0_0
  | 2 => some .i_16x16_1_0_0
  | 3 => some .i_16x16_2_0_0
  | 4 => some .i_16x16_3_0_0
  | 5 => some .i_16x16_0_1_0
  | 6 => some .i_16x16_1_1_0
  | 7 => some .i_16x16_2_1_0
  | 8 => some .i_16x16_3_1_0
  | 9 => some .i_16x16_0_2_0
  | 10 => some .i_16x16_1_2_0
  | 11 => some .i_16x16_2_2_0
  | 12 => some .i_16x16_3_2_0
  | 13 => some .i_16x16_0_0_1
  | 14 => some .i_16x16_1_0_1
  | 15 => some .i_16x16_2_0_1
  | 16 => some .i_16x16_3_0_1
  | 17 => some .i_16x16_0_1_1
  | 18 => some .i_16x16_1_1_1
  | 19 => some .i_16x16_2_1_1
  | 20 => some .i_16x16_3_1_1
  | 21 => some .i_16x16_0_2_1
  | 22 => some .i_16x16_1_2_1
  | 23 => some .i_16x16_2_2_1
  | 24 => some .i_16x16_3_2_1
  | 25 => some .iPcm
  | _ => none

/-- The code space `mbP`: MBTYPE_P rows of the opcode table. -/
def mbPOf : Nat → Option Instr
  | 0 => some .pL0_16x16
  | 1 => some .pL0L0_16x8
  | 2 => some .pL0L0_8x16
  | 3 => some .p8x8
  | 4 => some .p8x8ref0
  | 5 => some .pINxN
  | 6 => some .pI_16x16_0_0_0
  | 7 => some .pI_16x16_1_0_0
  | 8 => some .pI_16x16_2_0_0
  | 9 => some .pI_16x16_3_0_0
  | 10 => some .pI_16x16_0_1_0
  | 11 => some .pI_16x16_1_1_0
  | 12 => some .pI_16x16_2_1_0
  | 13 => some .pI_16x16_3_1_0
  | 14 => some .pI_16x16_0_2_0
  | 15 => some .pI_16x16_1_2_0
  | 16 => some .pI_16x16_2_2_0
  | 17 => some .pI_16x16_3_2_0
  | 18 => some .pI_16x16_0_0_1
  | 19 => some .pI_16x16_1_0_1
  | 20 => some .pI_16x16_2_0_1
  | 21 => some .pI_16x16_3_0_1
  | 22 => some .pI_16x16_0_1_1
  | 23 => some .pI_16x16_1_1_1
  | 24 => some .pI_16x16_2_1_1
  | 25 => some .pI_16x16_3_1_1
  | 26 => some .pI_16x16_0_2_1
  | 27 => some .pI_16x16_1_2_1
  | 28 => some .pI_16x16_2_2_1
  | 29 => some .pI_16x16_3_2_1
  | 30 => some .pIPcm
  | _ => none

/-- The code space `mbB`: MBTYPE_B rows of the opcode table. -/
def mbBOf : Nat → Option Instr
  | 0 => some .bDirect16x16
  | 1 => some .bL0_16x16
  | 2 => some .bL1_16x16
  | 3 => some .bBi_16x16
  | 4 => some .bL0L0_16x8
  | 5 => some .bL0L0_8x16
  | 6 => some .bL1L1_16x8
  | 7 => some .bL1L1_8x16
  | 8 => some .bL0L1_16x8
  | 9 => some .bL0L1_8x16
  | 10 => some .bL1L0_16x8
  | 11 => some .bL1L0_8x16
  | 12 => some .bL0Bi_16x8
  | 13 => some .bL0Bi_8x16
  | 14 => some .bL1Bi_16x8
  | 15 => some .bL1Bi_8x16
  | 16 => some .bBiL0_16x8
  | 17 => some .bBiL0_8x16
  | 18 => some .bBiL1_16x8
  | 19 => some .bBiL1_8x16
  | 20 => some .bBiBi_16x8
  | 21 => some .bBiBi_8x16
  | 22 => some .b8x8
  | 23 => some .bINxN
  | 24 => some .bI_16x16_0_0_0
  | 25 => some .bI_16x16_1_0_0
  | 26 => some .bI_16x16_2_0_0
  | 27 => some .bI_16x16_3_0_0
  | 28 => some .bI_16x16_0_1_0
  | 29 => some .bI_16x16_1_1_0
  | 30 => some .bI_16x16_2_1_0
  | 31 => some .bI_16x16_3_1_0
  | 32 => some .bI_16x16_0_2_0
  | 33 => some .bI_16x16_1_2_0
  | 34 => some .bI_16x16_2_2_0
  | 35 => some .bI_16x16_3_2_0
  | 36 => some .bI_16x16_0_0_1
  | 37 => some .bI_16x16_1_0_1
  | 38 => some .bI_16x16_2_0_1
  | 39 => some .bI_16x16_3_0_1
  | 40 => some .bI_16x16_0_1_1
  | 41 => some .bI_16x16_1_1_1
  | 42 => some .bI_16x16_2_1_1
  | 43 => some .bI_16x16_3_1_1
  | 44 => some .bI_16x16_0_2_1
  | 45 => some .bI_16x16_1_2_1
  | 46 => some .bI_16x16_2_2_1
  | 47 => some .bI_16x16_3_2_1
  | 48 => some .bIPcm
  | _ => none

/-- The code space `subP`: SUBMB_P rows of the opcode table. -/
def subPOf : Nat → Option Instr
  | 0 => some .subPL0_8x8
  | 1 => some .subPL0_8x4
  | 2 => some .subPL0_4x8
  | 3 => some .subPL0_4x4
  | _ => none

/-- The code space `subB`: SUBMB_B rows of the opcode table. -/
def subBOf : Nat → Option Instr
  | 0 => some .subBDirect_8x8
  | 1 => some .subBL0_8x8
  | 2 => some .subBL1_8x8
  | 3 => some .subBBi_8x8
  | 4 => some .subBL0_8x4
  | 5 => some .subBL0_4x8
  | 6 => some .subBL1_8x4
  | 7 => some .subBL1_4x8
  | 8 => some .subBBi_8x4
  | 9 => some .subBBi_4x8
  | 10 => some .subBL0_4x4
  | 11 => some .subBL1_4x4
  | 12 => some .subBBi_4x4
  | _ => none

/-- The code space `i4Mode`: I4X4MODE rows of the opcode table. -/
def i4ModeOf : Nat → Option Instr
  | 0 => some .intra4x4Vertical
  | 1 => some .intra4x4Horizontal
  | 2 => some .intra4x4Dc
  | 3 => some .intra4x4DiagDownLeft
  | 4 => some .intra4x4DiagDownRight
  | 5 => some .intra4x4VerticalRight
  | 6 => some .intra4x4HorizontalDown
  | 7 => some .intra4x4VerticalLeft
  | 8 => some .intra4x4HorizontalUp
  | _ => none

/-- The code space `i8Mode`: I8X8MODE rows of the opcode table. -/
def i8ModeOf : Nat → Option Instr
  | 0 => some .intra8x8Vertical
  | 1 => some .intra8x8Horizontal
  | 2 => some .intra8x8Dc
  | 3 => some .intra8x8DiagDownLeft
  | 4 => some .intra8x8DiagDownRight
  | 5 => some .intra8x8VerticalRight
  | 6 => some .intra8x8HorizontalDown
  | 7 => some .intra8x8VerticalLeft
  | 8 => some .intra8x8HorizontalUp
  | _ => none

/-- The code space `i16Mode`: I16X16MODE rows of the opcode table. -/
def i16ModeOf : Nat → Option Instr
  | 0 => some .intra16x16Vertical
  | 1 => some .intra16x16Horizontal
  | 2 => some .intra16x16Dc
  | 3 => some .intra16x16Plane
  | _ => none

/-- The code space `chromaMode`: CHROMAMODE rows of the opcode table. -/
def chromaModeOf : Nat → Option Instr
  | 0 => some .chromaDc
  | 1 => some .chromaHorizontal
  | 2 => some .chromaVertical
  | 3 => some .chromaPlane
  | _ => none

/-- The code space `qpel`: QPEL_LUMA rows of the opcode table. -/
def qpelOf : Nat → Option Instr
  | 0 => some .qpel00G
  | 1 => some .qpel01d
  | 2 => some .qpel02h
  | 3 => some .qpel03n
  | 4 => some .qpel10a
  | 5 => some .qpel11e
  | 6 => some .qpel12i
  | 7 => some .qpel13p
  | 8 => some .qpel20b
  | 9 => some .qpel21f
  | 10 => some .qpel22j
  | 11 => some .qpel23q
  | 12 => some .qpel30c
  | 13 => some .qpel31g
  | 14 => some .qpel32k
  | 15 => some .qpel33r
  | _ => none

/-- The code space `cpel`: CPEL_CHROMA rows of the opcode table. -/
def cpelOf : Nat → Option Instr
  | 0 => some .cpel00
  | 1 => some .cpel01
  | 2 => some .cpel02
  | 3 => some .cpel03
  | 4 => some .cpel04
  | 5 => some .cpel05
  | 6 => some .cpel06
  | 7 => some .cpel07
  | 8 => some .cpel10
  | 9 => some .cpel11
  | 10 => some .cpel12
  | 11 => some .cpel13
  | 12 => some .cpel14
  | 13 => some .cpel15
  | 14 => some .cpel16
  | 15 => some .cpel17
  | 16 => some .cpel20
  | 17 => some .cpel21
  | 18 => some .cpel22
  | 19 => some .cpel23
  | 20 => some .cpel24
  | 21 => some .cpel25
  | 22 => some .cpel26
  | 23 => some .cpel27
  | 24 => some .cpel30
  | 25 => some .cpel31
  | 26 => some .cpel32
  | 27 => some .cpel33
  | 28 => some .cpel34
  | 29 => some .cpel35
  | 30 => some .cpel36
  | 31 => some .cpel37
  | 32 => some .cpel40
  | 33 => some .cpel41
  | 34 => some .cpel42
  | 35 => some .cpel43
  | 36 => some .cpel44
  | 37 => some .cpel45
  | 38 => some .cpel46
  | 39 => some .cpel47
  | 40 => some .cpel50
  | 41 => some .cpel51
  | 42 => some .cpel52
  | 43 => some .cpel53
  | 44 => some .cpel54
  | 45 => some .cpel55
  | 46 => some .cpel56
  | 47 => some .cpel57
  | 48 => some .cpel60
  | 49 => some .cpel61
  | 50 => some .cpel62
  | 51 => some .cpel63
  | 52 => some .cpel64
  | 53 => some .cpel65
  | 54 => some .cpel66
  | 55 => some .cpel67
  | 56 => some .cpel70
  | 57 => some .cpel71
  | 58 => some .cpel72
  | 59 => some .cpel73
  | 60 => some .cpel74
  | 61 => some .cpel75
  | 62 => some .cpel76
  | 63 => some .cpel77
  | _ => none

/-- The code space `xform`: XFORM rows of the opcode table. -/
def xformOf : Nat → Option Instr
  | 0 => some .idct4x4
  | 1 => some .dequantBranches
  | 2 => some .lumaDc4x4
  | 3 => some .chromaDc2x2
  | 4 => some .chromaAc
  | 5 => some .idct8x8
  | 6 => some .reconClip
  | 7 => some .zeroBlock
  | 8 => some .dcOnly4x4
  | _ => none

/-- The code space `sgMap`: SGMAP rows of the opcode table. -/
def sgMapOf : Nat → Option Instr
  | 0 => some .sgmap0Interleaved
  | 1 => some .sgmap1Dispersed
  | 2 => some .sgmap2Foreground
  | 3 => some .sgmap3BoxOut
  | 4 => some .sgmap4Raster
  | 5 => some .sgmap5Wipe
  | 6 => some .sgmap6Explicit
  | _ => none

/-- The code space `pocType`: POCTYPE rows of the opcode table. -/
def pocTypeOf : Nat → Option Instr
  | 0 => some .pocType0
  | 1 => some .pocType1
  | 2 => some .pocType2
  | _ => none

/-- The NAL unit types (30_encoding.md R146), with `nal_ref_idc`. -/
def nalTypeOf (refIdc : BitVec 2) : Nat → Option Instr
  | 0 => some (.nalType0 refIdc)
  | 1 => some (.nalSlice refIdc)
  | 2 => some (.nalType2 refIdc)
  | 3 => some (.nalType3 refIdc)
  | 4 => some (.nalType4 refIdc)
  | 5 => some (.nalIdr refIdc)
  | 6 => some (.nalType6 refIdc)
  | 7 => some (.nalSps refIdc)
  | 8 => some (.nalPps refIdc)
  | 9 => some (.nalType9 refIdc)
  | 10 => some (.nalType10 refIdc)
  | 11 => some (.nalType11 refIdc)
  | 12 => some (.nalType12 refIdc)
  | 13 => some (.nalType13 refIdc)
  | 14 => some (.nalType14 refIdc)
  | 15 => some (.nalType15 refIdc)
  | 16 => some (.nalType16 refIdc)
  | 17 => some (.nalType17 refIdc)
  | 18 => some (.nalType18 refIdc)
  | 19 => some (.nalType19 refIdc)
  | 20 => some (.nalType20 refIdc)
  | 21 => some (.nalType21 refIdc)
  | 22 => some (.nalType22 refIdc)
  | 23 => some (.nalType23 refIdc)
  | 24 => some (.nalType24 refIdc)
  | 25 => some (.nalType25 refIdc)
  | 26 => some (.nalType26 refIdc)
  | 27 => some (.nalType27 refIdc)
  | 28 => some (.nalType28 refIdc)
  | 29 => some (.nalType29 refIdc)
  | 30 => some (.nalType30 refIdc)
  | 31 => some (.nalType31 refIdc)
  | _ => none

/-- A NAL header byte (30_encoding.md R145). -/
def nalHdrOf (b : Nat) : Option Instr :=
  if b / 128 % 2 = 1 then some (.nalForbidden (BitVec.ofNat 7 b))
  else nalTypeOf (BitVec.ofNat 2 (b / 32)) (b % 32)

/-- The command a `CTRL` word takes: bit 0 whatever else is written, otherwise exactly one of bits 1..3 (10_state.md R62, R63); bits 31:4 are ignored (R60). -/
def cmdOf (w : Nat) : Option Instr :=
  if w % 2 = 1 then some .srst
  else match w / 2 % 8 with
    | 1 => some .nal
    | 2 => some .auEnd
    | 4 => some .release
    | _ => none

/-- A modification command: code 0..3 and its operand (42_slice_header.md R304). -/
def rplmDecode (bs : List Bool) : CodeRes Instr :=
  (ueDecode bs).thenRead fun idc n =>
    let operand := ueDecode (bs.drop n)
    match idc with
    | 0 => operand.map .rplmSub
    | 1 => operand.map .rplmAdd
    | 2 => operand.map .rplmLong
    | 3 => .ok .rplmEnd 0
    | _ => .error .reserved 0

/-- A marking operation: code 0..6 and its operands (42_slice_header.md R306). -/
def mmcoDecode (bs : List Bool) : CodeRes Instr :=
  (ueDecode bs).thenRead fun op n =>
    let operand := ueDecode (bs.drop n)
    match op with
    | 0 => .ok .mmcoEnd 0
    | 1 => operand.map .mmcoShortUnused
    | 2 => operand.map .mmcoLongUnused
    | 3 => operand.thenRead fun d m => (ueDecode (bs.drop (n + m))).map (.mmcoShortToLong d)
    | 4 => operand.map .mmcoMaxLongIdx
    | 5 => .ok .mmcoAllUnused 0
    | 6 => operand.map .mmcoCurToLong
    | _ => .error .reserved 0

/-- The operation of a descriptor. -/
def descOf : Desc → Instr
  | .u n => .descU n
  | .f n => .descF n
  | .uv n => .descUv n
  | .ue => .descUe
  | .se => .descSe
  | .te c => .descTe c
  | .me i => .descMe i
  | .ce e => .descCe e
  | .ae e => .descAe e

/-- Reject a value its space reserves. -/
def orReserved (f : Nat → Option Instr) : CodeRes Nat → CodeRes Instr
  | .error e n => .error e n
  | .ok v n => match f v with
    | some i => .ok i n
    | none => .error .reserved n

/-- THE DECODER: the operation that the first bits of `bs` code in a space, with the bits consumed. -/
def decode (sp : Space) (bs : List Bool) : CodeRes Instr :=
  match sp with
  | .cmd => orReserved cmdOf (fixedDecode 32 bs)
  | .nalHdr => orReserved nalHdrOf (fixedDecode 8 bs)
  | .sliceType => orReserved sliceTypeOf (ueDecode bs)
  | .mbI => orReserved mbIOf (ueDecode bs)
  | .mbP => orReserved mbPOf (ueDecode bs)
  | .mbB => orReserved mbBOf (ueDecode bs)
  | .skipP => .ok .pSkip 0
  | .skipB => .ok .bSkip 0
  | .subP => orReserved subPOf (ueDecode bs)
  | .subB => orReserved subBOf (ueDecode bs)
  | .i4Mode => orReserved i4ModeOf (fixedDecode 4 bs)
  | .i8Mode => orReserved i8ModeOf (fixedDecode 4 bs)
  | .i16Mode => orReserved i16ModeOf (fixedDecode 2 bs)
  | .chromaMode => orReserved chromaModeOf (ueDecode bs)
  | .qpel => orReserved qpelOf (fixedDecode 4 bs)
  | .cpel => orReserved cpelOf (fixedDecode 6 bs)
  | .xform => orReserved xformOf (fixedDecode 4 bs)
  | .rplm => rplmDecode bs
  | .mmco => mmcoDecode bs
  | .sgMap => orReserved sgMapOf (ueDecode bs)
  | .pocType => orReserved pocTypeOf (ueDecode bs)
  | .desc d => .ok (descOf d) 0

/-- The code of value `v` in a space (the selectors that the machine computes; no operands). -/
def codeBits (sp : Space) (v : Nat) : List Bool :=
  match sp with
  | .cmd => natToBits 32 v
  | .nalHdr => natToBits 8 v
  | .i4Mode | .i8Mode | .qpel | .xform => natToBits 4 v
  | .i16Mode => natToBits 2 v
  | .cpel => natToBits 6 v
  | .skipP | .skipB | .desc _ => []
  | _ => ueEncode v

/-- Space and code of an operation: the encoding tables of the spec read the other way. -/
def spaceOf : Instr → Space
  | .srst => .cmd
  | .nal => .cmd
  | .auEnd => .cmd
  | .release => .cmd
  | .descU n => .desc (.u n)
  | .descF n => .desc (.f n)
  | .descUv n => .desc (.uv n)
  | .descUe => .desc (.ue)
  | .descSe => .desc (.se)
  | .descTe cMax => .desc (.te cMax)
  | .descMe intra => .desc (.me intra)
  | .descCe e => .desc (.ce e)
  | .descAe e => .desc (.ae e)
  | .nalType0 _ => .nalHdr
  | .nalSlice _ => .nalHdr
  | .nalType2 _ => .nalHdr
  | .nalType3 _ => .nalHdr
  | .nalType4 _ => .nalHdr
  | .nalIdr _ => .nalHdr
  | .nalType6 _ => .nalHdr
  | .nalSps _ => .nalHdr
  | .nalPps _ => .nalHdr
  | .nalType9 _ => .nalHdr
  | .nalType10 _ => .nalHdr
  | .nalType11 _ => .nalHdr
  | .nalType12 _ => .nalHdr
  | .nalType13 _ => .nalHdr
  | .nalType14 _ => .nalHdr
  | .nalType15 _ => .nalHdr
  | .nalType16 _ => .nalHdr
  | .nalType17 _ => .nalHdr
  | .nalType18 _ => .nalHdr
  | .nalType19 _ => .nalHdr
  | .nalType20 _ => .nalHdr
  | .nalType21 _ => .nalHdr
  | .nalType22 _ => .nalHdr
  | .nalType23 _ => .nalHdr
  | .nalType24 _ => .nalHdr
  | .nalType25 _ => .nalHdr
  | .nalType26 _ => .nalHdr
  | .nalType27 _ => .nalHdr
  | .nalType28 _ => .nalHdr
  | .nalType29 _ => .nalHdr
  | .nalType30 _ => .nalHdr
  | .nalType31 _ => .nalHdr
  | .nalForbidden _ => .nalHdr
  | .rplmSub _ => .rplm
  | .rplmAdd _ => .rplm
  | .rplmLong _ => .rplm
  | .rplmEnd => .rplm
  | .mmcoEnd => .mmco
  | .mmcoShortUnused _ => .mmco
  | .mmcoLongUnused _ => .mmco
  | .mmcoShortToLong _ _ => .mmco
  | .mmcoMaxLongIdx _ => .mmco
  | .mmcoAllUnused => .mmco
  | .mmcoCurToLong _ => .mmco
  | .sliceP => .sliceType
  | .sliceB => .sliceType
  | .sliceI => .sliceType
  | .sliceSp => .sliceType
  | .sliceSi => .sliceType
  | .slicePAll => .sliceType
  | .sliceBAll => .sliceType
  | .sliceIAll => .sliceType
  | .sliceSpAll => .sliceType
  | .sliceSiAll => .sliceType
  | .iNxN => .mbI
  | .i_16x16_0_0_0 => .mbI
  | .i_16x16_1_0_0 => .mbI
  | .i_16x16_2_0_0 => .mbI
  | .i_16x16_3_0_0 => .mbI
  | .i_16x16_0_1_0 => .mbI
  | .i_16x16_1_1_0 => .mbI
  | .i_16x16_2_1_0 => .mbI
  | .i_16x16_3_1_0 => .mbI
  | .i_16x16_0_2_0 => .mbI
  | .i_16x16_1_2_0 => .mbI
  | .i_16x16_2_2_0 => .mbI
  | .i_16x16_3_2_0 => .mbI
  | .i_16x16_0_0_1 => .mbI
  | .i_16x16_1_0_1 => .mbI
  | .i_16x16_2_0_1 => .mbI
  | .i_16x16_3_0_1 => .mbI
  | .i_16x16_0_1_1 => .mbI
  | .i_16x16_1_1_1 => .mbI
  | .i_16x16_2_1_1 => .mbI
  | .i_16x16_3_1_1 => .mbI
  | .i_16x16_0_2_1 => .mbI
  | .i_16x16_1_2_1 => .mbI
  | .i_16x16_2_2_1 => .mbI
  | .i_16x16_3_2_1 => .mbI
  | .iPcm => .mbI
  | .pL0_16x16 => .mbP
  | .pL0L0_16x8 => .mbP
  | .pL0L0_8x16 => .mbP
  | .p8x8 => .mbP
  | .p8x8ref0 => .mbP
  | .pINxN => .mbP
  | .pI_16x16_0_0_0 => .mbP
  | .pI_16x16_1_0_0 => .mbP
  | .pI_16x16_2_0_0 => .mbP
  | .pI_16x16_3_0_0 => .mbP
  | .pI_16x16_0_1_0 => .mbP
  | .pI_16x16_1_1_0 => .mbP
  | .pI_16x16_2_1_0 => .mbP
  | .pI_16x16_3_1_0 => .mbP
  | .pI_16x16_0_2_0 => .mbP
  | .pI_16x16_1_2_0 => .mbP
  | .pI_16x16_2_2_0 => .mbP
  | .pI_16x16_3_2_0 => .mbP
  | .pI_16x16_0_0_1 => .mbP
  | .pI_16x16_1_0_1 => .mbP
  | .pI_16x16_2_0_1 => .mbP
  | .pI_16x16_3_0_1 => .mbP
  | .pI_16x16_0_1_1 => .mbP
  | .pI_16x16_1_1_1 => .mbP
  | .pI_16x16_2_1_1 => .mbP
  | .pI_16x16_3_1_1 => .mbP
  | .pI_16x16_0_2_1 => .mbP
  | .pI_16x16_1_2_1 => .mbP
  | .pI_16x16_2_2_1 => .mbP
  | .pI_16x16_3_2_1 => .mbP
  | .pIPcm => .mbP
  | .pSkip => .skipP
  | .bDirect16x16 => .mbB
  | .bL0_16x16 => .mbB
  | .bL1_16x16 => .mbB
  | .bBi_16x16 => .mbB
  | .bL0L0_16x8 => .mbB
  | .bL0L0_8x16 => .mbB
  | .bL1L1_16x8 => .mbB
  | .bL1L1_8x16 => .mbB
  | .bL0L1_16x8 => .mbB
  | .bL0L1_8x16 => .mbB
  | .bL1L0_16x8 => .mbB
  | .bL1L0_8x16 => .mbB
  | .bL0Bi_16x8 => .mbB
  | .bL0Bi_8x16 => .mbB
  | .bL1Bi_16x8 => .mbB
  | .bL1Bi_8x16 => .mbB
  | .bBiL0_16x8 => .mbB
  | .bBiL0_8x16 => .mbB
  | .bBiL1_16x8 => .mbB
  | .bBiL1_8x16 => .mbB
  | .bBiBi_16x8 => .mbB
  | .bBiBi_8x16 => .mbB
  | .b8x8 => .mbB
  | .bINxN => .mbB
  | .bI_16x16_0_0_0 => .mbB
  | .bI_16x16_1_0_0 => .mbB
  | .bI_16x16_2_0_0 => .mbB
  | .bI_16x16_3_0_0 => .mbB
  | .bI_16x16_0_1_0 => .mbB
  | .bI_16x16_1_1_0 => .mbB
  | .bI_16x16_2_1_0 => .mbB
  | .bI_16x16_3_1_0 => .mbB
  | .bI_16x16_0_2_0 => .mbB
  | .bI_16x16_1_2_0 => .mbB
  | .bI_16x16_2_2_0 => .mbB
  | .bI_16x16_3_2_0 => .mbB
  | .bI_16x16_0_0_1 => .mbB
  | .bI_16x16_1_0_1 => .mbB
  | .bI_16x16_2_0_1 => .mbB
  | .bI_16x16_3_0_1 => .mbB
  | .bI_16x16_0_1_1 => .mbB
  | .bI_16x16_1_1_1 => .mbB
  | .bI_16x16_2_1_1 => .mbB
  | .bI_16x16_3_1_1 => .mbB
  | .bI_16x16_0_2_1 => .mbB
  | .bI_16x16_1_2_1 => .mbB
  | .bI_16x16_2_2_1 => .mbB
  | .bI_16x16_3_2_1 => .mbB
  | .bIPcm => .mbB
  | .bSkip => .skipB
  | .subPL0_8x8 => .subP
  | .subPL0_8x4 => .subP
  | .subPL0_4x8 => .subP
  | .subPL0_4x4 => .subP
  | .subBDirect_8x8 => .subB
  | .subBL0_8x8 => .subB
  | .subBL1_8x8 => .subB
  | .subBBi_8x8 => .subB
  | .subBL0_8x4 => .subB
  | .subBL0_4x8 => .subB
  | .subBL1_8x4 => .subB
  | .subBL1_4x8 => .subB
  | .subBBi_8x4 => .subB
  | .subBBi_4x8 => .subB
  | .subBL0_4x4 => .subB
  | .subBL1_4x4 => .subB
  | .subBBi_4x4 => .subB
  | .intra4x4Vertical => .i4Mode
  | .intra4x4Horizontal => .i4Mode
  | .intra4x4Dc => .i4Mode
  | .intra4x4DiagDownLeft => .i4Mode
  | .intra4x4DiagDownRight => .i4Mode
  | .intra4x4VerticalRight => .i4Mode
  | .intra4x4HorizontalDown => .i4Mode
  | .intra4x4VerticalLeft => .i4Mode
  | .intra4x4HorizontalUp => .i4Mode
  | .intra8x8Vertical => .i8Mode
  | .intra8x8Horizontal => .i8Mode
  | .intra8x8Dc => .i8Mode
  | .intra8x8DiagDownLeft => .i8Mode
  | .intra8x8DiagDownRight => .i8Mode
  | .intra8x8VerticalRight => .i8Mode
  | .intra8x8HorizontalDown => .i8Mode
  | .intra8x8VerticalLeft => .i8Mode
  | .intra8x8HorizontalUp => .i8Mode
  | .intra16x16Vertical => .i16Mode
  | .intra16x16Horizontal => .i16Mode
  | .intra16x16Dc => .i16Mode
  | .intra16x16Plane => .i16Mode
  | .chromaDc => .chromaMode
  | .chromaHorizontal => .chromaMode
  | .chromaVertical => .chromaMode
  | .chromaPlane => .chromaMode
  | .qpel00G => .qpel
  | .qpel01d => .qpel
  | .qpel02h => .qpel
  | .qpel03n => .qpel
  | .qpel10a => .qpel
  | .qpel11e => .qpel
  | .qpel12i => .qpel
  | .qpel13p => .qpel
  | .qpel20b => .qpel
  | .qpel21f => .qpel
  | .qpel22j => .qpel
  | .qpel23q => .qpel
  | .qpel30c => .qpel
  | .qpel31g => .qpel
  | .qpel32k => .qpel
  | .qpel33r => .qpel
  | .cpel00 => .cpel
  | .cpel01 => .cpel
  | .cpel02 => .cpel
  | .cpel03 => .cpel
  | .cpel04 => .cpel
  | .cpel05 => .cpel
  | .cpel06 => .cpel
  | .cpel07 => .cpel
  | .cpel10 => .cpel
  | .cpel11 => .cpel
  | .cpel12 => .cpel
  | .cpel13 => .cpel
  | .cpel14 => .cpel
  | .cpel15 => .cpel
  | .cpel16 => .cpel
  | .cpel17 => .cpel
  | .cpel20 => .cpel
  | .cpel21 => .cpel
  | .cpel22 => .cpel
  | .cpel23 => .cpel
  | .cpel24 => .cpel
  | .cpel25 => .cpel
  | .cpel26 => .cpel
  | .cpel27 => .cpel
  | .cpel30 => .cpel
  | .cpel31 => .cpel
  | .cpel32 => .cpel
  | .cpel33 => .cpel
  | .cpel34 => .cpel
  | .cpel35 => .cpel
  | .cpel36 => .cpel
  | .cpel37 => .cpel
  | .cpel40 => .cpel
  | .cpel41 => .cpel
  | .cpel42 => .cpel
  | .cpel43 => .cpel
  | .cpel44 => .cpel
  | .cpel45 => .cpel
  | .cpel46 => .cpel
  | .cpel47 => .cpel
  | .cpel50 => .cpel
  | .cpel51 => .cpel
  | .cpel52 => .cpel
  | .cpel53 => .cpel
  | .cpel54 => .cpel
  | .cpel55 => .cpel
  | .cpel56 => .cpel
  | .cpel57 => .cpel
  | .cpel60 => .cpel
  | .cpel61 => .cpel
  | .cpel62 => .cpel
  | .cpel63 => .cpel
  | .cpel64 => .cpel
  | .cpel65 => .cpel
  | .cpel66 => .cpel
  | .cpel67 => .cpel
  | .cpel70 => .cpel
  | .cpel71 => .cpel
  | .cpel72 => .cpel
  | .cpel73 => .cpel
  | .cpel74 => .cpel
  | .cpel75 => .cpel
  | .cpel76 => .cpel
  | .cpel77 => .cpel
  | .idct4x4 => .xform
  | .dequantBranches => .xform
  | .lumaDc4x4 => .xform
  | .chromaDc2x2 => .xform
  | .chromaAc => .xform
  | .idct8x8 => .xform
  | .reconClip => .xform
  | .zeroBlock => .xform
  | .dcOnly4x4 => .xform
  | .sgmap0Interleaved => .sgMap
  | .sgmap1Dispersed => .sgMap
  | .sgmap2Foreground => .sgMap
  | .sgmap3BoxOut => .sgMap
  | .sgmap4Raster => .sgMap
  | .sgmap5Wipe => .sgMap
  | .sgmap6Explicit => .sgMap
  | .pocType0 => .pocType
  | .pocType1 => .pocType
  | .pocType2 => .pocType

/-- The code value of an operation in its space (0 for those without a code). -/
def codeOf : Instr → Nat
  | .srst => 1
  | .nal => 2
  | .auEnd => 4
  | .release => 8
  | .descU _ => 0
  | .descF _ => 0
  | .descUv _ => 0
  | .descUe => 0
  | .descSe => 0
  | .descTe _ => 0
  | .descMe _ => 0
  | .descCe _ => 0
  | .descAe _ => 0
  | .nalType0 refIdc => 32 * refIdc.toNat + 0
  | .nalSlice refIdc => 32 * refIdc.toNat + 1
  | .nalType2 refIdc => 32 * refIdc.toNat + 2
  | .nalType3 refIdc => 32 * refIdc.toNat + 3
  | .nalType4 refIdc => 32 * refIdc.toNat + 4
  | .nalIdr refIdc => 32 * refIdc.toNat + 5
  | .nalType6 refIdc => 32 * refIdc.toNat + 6
  | .nalSps refIdc => 32 * refIdc.toNat + 7
  | .nalPps refIdc => 32 * refIdc.toNat + 8
  | .nalType9 refIdc => 32 * refIdc.toNat + 9
  | .nalType10 refIdc => 32 * refIdc.toNat + 10
  | .nalType11 refIdc => 32 * refIdc.toNat + 11
  | .nalType12 refIdc => 32 * refIdc.toNat + 12
  | .nalType13 refIdc => 32 * refIdc.toNat + 13
  | .nalType14 refIdc => 32 * refIdc.toNat + 14
  | .nalType15 refIdc => 32 * refIdc.toNat + 15
  | .nalType16 refIdc => 32 * refIdc.toNat + 16
  | .nalType17 refIdc => 32 * refIdc.toNat + 17
  | .nalType18 refIdc => 32 * refIdc.toNat + 18
  | .nalType19 refIdc => 32 * refIdc.toNat + 19
  | .nalType20 refIdc => 32 * refIdc.toNat + 20
  | .nalType21 refIdc => 32 * refIdc.toNat + 21
  | .nalType22 refIdc => 32 * refIdc.toNat + 22
  | .nalType23 refIdc => 32 * refIdc.toNat + 23
  | .nalType24 refIdc => 32 * refIdc.toNat + 24
  | .nalType25 refIdc => 32 * refIdc.toNat + 25
  | .nalType26 refIdc => 32 * refIdc.toNat + 26
  | .nalType27 refIdc => 32 * refIdc.toNat + 27
  | .nalType28 refIdc => 32 * refIdc.toNat + 28
  | .nalType29 refIdc => 32 * refIdc.toNat + 29
  | .nalType30 refIdc => 32 * refIdc.toNat + 30
  | .nalType31 refIdc => 32 * refIdc.toNat + 31
  | .nalForbidden rest => 128 + rest.toNat
  | .rplmSub _ => 0
  | .rplmAdd _ => 1
  | .rplmLong _ => 2
  | .rplmEnd => 3
  | .mmcoEnd => 0
  | .mmcoShortUnused _ => 1
  | .mmcoLongUnused _ => 2
  | .mmcoShortToLong _ _ => 3
  | .mmcoMaxLongIdx _ => 4
  | .mmcoAllUnused => 5
  | .mmcoCurToLong _ => 6
  | .sliceP => 0
  | .sliceB => 1
  | .sliceI => 2
  | .sliceSp => 3
  | .sliceSi => 4
  | .slicePAll => 5
  | .sliceBAll => 6
  | .sliceIAll => 7
  | .sliceSpAll => 8
  | .sliceSiAll => 9
  | .iNxN => 0
  | .i_16x16_0_0_0 => 1
  | .i_16x16_1_0_0 => 2
  | .i_16x16_2_0_0 => 3
  | .i_16x16_3_0_0 => 4
  | .i_16x16_0_1_0 => 5
  | .i_16x16_1_1_0 => 6
  | .i_16x16_2_1_0 => 7
  | .i_16x16_3_1_0 => 8
  | .i_16x16_0_2_0 => 9
  | .i_16x16_1_2_0 => 10
  | .i_16x16_2_2_0 => 11
  | .i_16x16_3_2_0 => 12
  | .i_16x16_0_0_1 => 13
  | .i_16x16_1_0_1 => 14
  | .i_16x16_2_0_1 => 15
  | .i_16x16_3_0_1 => 16
  | .i_16x16_0_1_1 => 17
  | .i_16x16_1_1_1 => 18
  | .i_16x16_2_1_1 => 19
  | .i_16x16_3_1_1 => 20
  | .i_16x16_0_2_1 => 21
  | .i_16x16_1_2_1 => 22
  | .i_16x16_2_2_1 => 23
  | .i_16x16_3_2_1 => 24
  | .iPcm => 25
  | .pL0_16x16 => 0
  | .pL0L0_16x8 => 1
  | .pL0L0_8x16 => 2
  | .p8x8 => 3
  | .p8x8ref0 => 4
  | .pINxN => 5
  | .pI_16x16_0_0_0 => 6
  | .pI_16x16_1_0_0 => 7
  | .pI_16x16_2_0_0 => 8
  | .pI_16x16_3_0_0 => 9
  | .pI_16x16_0_1_0 => 10
  | .pI_16x16_1_1_0 => 11
  | .pI_16x16_2_1_0 => 12
  | .pI_16x16_3_1_0 => 13
  | .pI_16x16_0_2_0 => 14
  | .pI_16x16_1_2_0 => 15
  | .pI_16x16_2_2_0 => 16
  | .pI_16x16_3_2_0 => 17
  | .pI_16x16_0_0_1 => 18
  | .pI_16x16_1_0_1 => 19
  | .pI_16x16_2_0_1 => 20
  | .pI_16x16_3_0_1 => 21
  | .pI_16x16_0_1_1 => 22
  | .pI_16x16_1_1_1 => 23
  | .pI_16x16_2_1_1 => 24
  | .pI_16x16_3_1_1 => 25
  | .pI_16x16_0_2_1 => 26
  | .pI_16x16_1_2_1 => 27
  | .pI_16x16_2_2_1 => 28
  | .pI_16x16_3_2_1 => 29
  | .pIPcm => 30
  | .pSkip => 0
  | .bDirect16x16 => 0
  | .bL0_16x16 => 1
  | .bL1_16x16 => 2
  | .bBi_16x16 => 3
  | .bL0L0_16x8 => 4
  | .bL0L0_8x16 => 5
  | .bL1L1_16x8 => 6
  | .bL1L1_8x16 => 7
  | .bL0L1_16x8 => 8
  | .bL0L1_8x16 => 9
  | .bL1L0_16x8 => 10
  | .bL1L0_8x16 => 11
  | .bL0Bi_16x8 => 12
  | .bL0Bi_8x16 => 13
  | .bL1Bi_16x8 => 14
  | .bL1Bi_8x16 => 15
  | .bBiL0_16x8 => 16
  | .bBiL0_8x16 => 17
  | .bBiL1_16x8 => 18
  | .bBiL1_8x16 => 19
  | .bBiBi_16x8 => 20
  | .bBiBi_8x16 => 21
  | .b8x8 => 22
  | .bINxN => 23
  | .bI_16x16_0_0_0 => 24
  | .bI_16x16_1_0_0 => 25
  | .bI_16x16_2_0_0 => 26
  | .bI_16x16_3_0_0 => 27
  | .bI_16x16_0_1_0 => 28
  | .bI_16x16_1_1_0 => 29
  | .bI_16x16_2_1_0 => 30
  | .bI_16x16_3_1_0 => 31
  | .bI_16x16_0_2_0 => 32
  | .bI_16x16_1_2_0 => 33
  | .bI_16x16_2_2_0 => 34
  | .bI_16x16_3_2_0 => 35
  | .bI_16x16_0_0_1 => 36
  | .bI_16x16_1_0_1 => 37
  | .bI_16x16_2_0_1 => 38
  | .bI_16x16_3_0_1 => 39
  | .bI_16x16_0_1_1 => 40
  | .bI_16x16_1_1_1 => 41
  | .bI_16x16_2_1_1 => 42
  | .bI_16x16_3_1_1 => 43
  | .bI_16x16_0_2_1 => 44
  | .bI_16x16_1_2_1 => 45
  | .bI_16x16_2_2_1 => 46
  | .bI_16x16_3_2_1 => 47
  | .bIPcm => 48
  | .bSkip => 0
  | .subPL0_8x8 => 0
  | .subPL0_8x4 => 1
  | .subPL0_4x8 => 2
  | .subPL0_4x4 => 3
  | .subBDirect_8x8 => 0
  | .subBL0_8x8 => 1
  | .subBL1_8x8 => 2
  | .subBBi_8x8 => 3
  | .subBL0_8x4 => 4
  | .subBL0_4x8 => 5
  | .subBL1_8x4 => 6
  | .subBL1_4x8 => 7
  | .subBBi_8x4 => 8
  | .subBBi_4x8 => 9
  | .subBL0_4x4 => 10
  | .subBL1_4x4 => 11
  | .subBBi_4x4 => 12
  | .intra4x4Vertical => 0
  | .intra4x4Horizontal => 1
  | .intra4x4Dc => 2
  | .intra4x4DiagDownLeft => 3
  | .intra4x4DiagDownRight => 4
  | .intra4x4VerticalRight => 5
  | .intra4x4HorizontalDown => 6
  | .intra4x4VerticalLeft => 7
  | .intra4x4HorizontalUp => 8
  | .intra8x8Vertical => 0
  | .intra8x8Horizontal => 1
  | .intra8x8Dc => 2
  | .intra8x8DiagDownLeft => 3
  | .intra8x8DiagDownRight => 4
  | .intra8x8VerticalRight => 5
  | .intra8x8HorizontalDown => 6
  | .intra8x8VerticalLeft => 7
  | .intra8x8HorizontalUp => 8
  | .intra16x16Vertical => 0
  | .intra16x16Horizontal => 1
  | .intra16x16Dc => 2
  | .intra16x16Plane => 3
  | .chromaDc => 0
  | .chromaHorizontal => 1
  | .chromaVertical => 2
  | .chromaPlane => 3
  | .qpel00G => 0
  | .qpel01d => 1
  | .qpel02h => 2
  | .qpel03n => 3
  | .qpel10a => 4
  | .qpel11e => 5
  | .qpel12i => 6
  | .qpel13p => 7
  | .qpel20b => 8
  | .qpel21f => 9
  | .qpel22j => 10
  | .qpel23q => 11
  | .qpel30c => 12
  | .qpel31g => 13
  | .qpel32k => 14
  | .qpel33r => 15
  | .cpel00 => 0
  | .cpel01 => 1
  | .cpel02 => 2
  | .cpel03 => 3
  | .cpel04 => 4
  | .cpel05 => 5
  | .cpel06 => 6
  | .cpel07 => 7
  | .cpel10 => 8
  | .cpel11 => 9
  | .cpel12 => 10
  | .cpel13 => 11
  | .cpel14 => 12
  | .cpel15 => 13
  | .cpel16 => 14
  | .cpel17 => 15
  | .cpel20 => 16
  | .cpel21 => 17
  | .cpel22 => 18
  | .cpel23 => 19
  | .cpel24 => 20
  | .cpel25 => 21
  | .cpel26 => 22
  | .cpel27 => 23
  | .cpel30 => 24
  | .cpel31 => 25
  | .cpel32 => 26
  | .cpel33 => 27
  | .cpel34 => 28
  | .cpel35 => 29
  | .cpel36 => 30
  | .cpel37 => 31
  | .cpel40 => 32
  | .cpel41 => 33
  | .cpel42 => 34
  | .cpel43 => 35
  | .cpel44 => 36
  | .cpel45 => 37
  | .cpel46 => 38
  | .cpel47 => 39
  | .cpel50 => 40
  | .cpel51 => 41
  | .cpel52 => 42
  | .cpel53 => 43
  | .cpel54 => 44
  | .cpel55 => 45
  | .cpel56 => 46
  | .cpel57 => 47
  | .cpel60 => 48
  | .cpel61 => 49
  | .cpel62 => 50
  | .cpel63 => 51
  | .cpel64 => 52
  | .cpel65 => 53
  | .cpel66 => 54
  | .cpel67 => 55
  | .cpel70 => 56
  | .cpel71 => 57
  | .cpel72 => 58
  | .cpel73 => 59
  | .cpel74 => 60
  | .cpel75 => 61
  | .cpel76 => 62
  | .cpel77 => 63
  | .idct4x4 => 0
  | .dequantBranches => 1
  | .lumaDc4x4 => 2
  | .chromaDc2x2 => 3
  | .chromaAc => 4
  | .idct8x8 => 5
  | .reconClip => 6
  | .zeroBlock => 7
  | .dcOnly4x4 => 8
  | .sgmap0Interleaved => 0
  | .sgmap1Dispersed => 1
  | .sgmap2Foreground => 2
  | .sgmap3BoxOut => 3
  | .sgmap4Raster => 4
  | .sgmap5Wipe => 5
  | .sgmap6Explicit => 6
  | .pocType0 => 0
  | .pocType1 => 1
  | .pocType2 => 2

/-- The operands coded after an operation's code. -/
def operandBits : Instr → List Bool
  | .rplmSub v | .rplmAdd v | .rplmLong v => ueEncode v
  | .mmcoShortUnused v | .mmcoLongUnused v | .mmcoMaxLongIdx v | .mmcoCurToLong v => ueEncode v
  | .mmcoShortToLong d i => ueEncode d ++ ueEncode i
  | _ => []

/-- THE ENCODER: the bits of an operation in its space. -/
def encode (i : Instr) : List Bool := codeBits (spaceOf i) (codeOf i) ++ operandBits i

/-- A decoded operation as an option. -/
def CodeRes.toOption {α : Type} : CodeRes α → Option α
  | .ok v _ => some v
  | .error _ _ => none

/-- The opcode table's numbering of a word: 32 bits are a `CTRL` word; one byte is the first row of the table, read in the table's order, whose code the byte is: 0..31 a NAL header (and every byte from 64 up), 32..63 a chroma phase; 16 bits are an intra 4x4 mode. -/
def decodeTableWord (nbits w : Nat) : Option Instr :=
  if nbits = 32 then (decode .cmd (natToBits 32 w)).toOption
  else if nbits = 8 then
    if 32 ≤ w ∧ w < 64 then (decode .cpel (natToBits 6 w)).toOption
    else (decode .nalHdr (natToBits 8 w)).toOption
  else if nbits = 16 then (decode .i4Mode (natToBits 4 w)).toOption
  else none

end Sys2Proof
end

