-- ==== Sys2Proof/Machine/State.lean ====
section
/-! DEFINITION. The state of MM-H264-CORE (10_state.md), its reset value (70_reset_and_hazards.md R850), and the reasons a step can stop. Plain data only. -/

namespace Sys2Proof.Machine

/-! ## Parameters and registers -/

/-- Which agent `CabacEngine` is (00_scope.md R11): an engine that follows the procedures of 45_cabac_syntax.md R502, or any other, taken as an oracle (log entry 45). -/
inductive EngineKind where
  | procedures | oracle
  deriving DecidableEq, Repr

/-- `BUS_ERRORS` (00_scope.md R11): whether a memory access can fault. `none` is the one value that the spec gives (20_memory.md R110, log entry 10). -/
inductive BusErrors where
  | none
  deriving DecidableEq, Repr

/-- The implementation parameters of 00_scope.md R11 that are plain data; the OPEN tables and the oracle are constants of Config. No step writes them. -/
structure Params where
  hwId : Word
  numFrames : Nat
  maxWidthMbs : Nat
  maxHeightMbs : Nat
  maxNalBytes : Nat
  addrW : Nat
  refIsDeblocked : Bool
  regBase : Nat
  cabacEngine : EngineKind
  busErrors : BusErrors
  deriving DecidableEq, Repr

/-- The slice states of 43_slice_fsm.md R360. -/
inductive Fsm where
  | idle | created | headerParsed | decoding | complete
  deriving DecidableEq, Repr

/-- The error codes of 60_exceptions.md R812. -/
inductive ErrCode where
  | bits | invalid | unsupported | psMissing | noFrame | mark
  deriving DecidableEq, Repr

/-- The control and status registers of 10_state.md R60-R70; STATUS is kept as its fields (R65). `outHandle` is the whole handle of the frame that OUT_FRAME names, the model's own (log entry 40). -/
structure Csr where
  nalAddr : Word
  nalLen : Word
  busy : Bool
  fsm : Fsm
  auErr : Bool
  sliceErr : Bool
  warnIpcm : Bool
  frameValid : Bool
  cmdErr : Bool
  errCode : Byte
  errInfo : Word
  errPos : Word
  outFrame : Word
  outHandle : Nat
  outPoc : Word
  relHandle : Byte
  frameBase : Word
  nalCount : Word
  deriving DecidableEq, Repr

/-! ## Parameter sets -/

/-- A scaling list as coded: absent, replaced by its default, or its values in scan order (41_parameter_sets.md R242). -/
inductive ScalingList where
  | absent
  | useDefault
  | coded (values : List Nat)
  deriving DecidableEq, Repr

/-- The four `frame_crop_*_offset` (10_state.md R45). -/
structure Crop where
  left : Nat
  right : Nat
  top : Nat
  bottom : Nat
  deriving DecidableEq, Repr

/-- A stored sequence parameter set (10_state.md R42, 41_parameter_sets.md R241); the values of R248 are computed from it. -/
structure Sps where
  profileIdc : Nat
  constraintFlags : Nat
  reservedZero2Bits : Nat
  levelIdc : Nat
  id : Nat
  chromaFormatIdc : Nat
  separateColourPlane : Bool
  bitDepthLumaMinus8 : Nat
  bitDepthChromaMinus8 : Nat
  qpprimeBypass : Bool
  scalingMatrixPresent : Bool
  scalingLists : List ScalingList
  log2MaxFrameNumMinus4 : Nat
  pocType : Nat
  log2MaxPocLsbMinus4 : Nat
  deltaPicOrderAlwaysZero : Bool
  offsetForNonRefPic : Int
  offsetForTopToBottom : Int
  offsetForRefFrame : List Int
  maxNumRefFrames : Nat
  gapsAllowed : Bool
  widthInMbsMinus1 : Nat
  heightInMapUnitsMinus1 : Nat
  frameMbsOnly : Bool
  mbAdaptiveFrameField : Bool
  direct8x8Inference : Bool
  frameCropping : Bool
  crop : Crop
  vuiPresent : Bool
  deriving DecidableEq, Repr

/-- A stored picture parameter set (10_state.md R43, 41_parameter_sets.md R252). -/
structure Pps where
  id : Nat
  spsId : Nat
  cabac : Bool
  bottomFieldPicOrder : Bool
  numSliceGroupsMinus1 : Nat
  mapType : Nat
  runLengthMinus1 : List Nat
  topLeft : List Nat
  bottomRight : List Nat
  changeDirection : Bool
  changeRateMinus1 : Nat
  picSizeInMapUnitsMinus1 : Nat
  sliceGroupId : List Nat
  numRefIdxL0DefaultMinus1 : Nat
  numRefIdxL1DefaultMinus1 : Nat
  weightedPred : Bool
  weightedBipredIdc : Nat
  picInitQpMinus26 : Int
  picInitQsMinus26 : Int
  chromaQpOffset : Int
  deblockingControlPresent : Bool
  constrainedIntraPred : Bool
  redundantPicCntPresent : Bool
  transform8x8Mode : Bool
  scalingMatrixPresent : Bool
  scalingLists : List ScalingList
  secondChromaQpOffset : Int
  deriving DecidableEq, Repr

/-! ## Slices -/

/-- A weight and an offset of `pred_weight_table()` (42_slice_header.md R305). -/
structure Weight where
  w : Int
  o : Int
  deriving DecidableEq, Repr

/-- The weights of one reference index (42_slice_header.md R305): `luma_weight_lX_flag`, `chroma_weight_lX_flag`, and the weights of luma, Cb, Cr, coded or inferred. -/
structure RefWeight where
  lumaFlag : Bool
  chromaFlag : Bool
  luma : Weight
  cb : Weight
  cr : Weight
  deriving DecidableEq, Repr

/-- A marking operation with its operands, in the order coded (42_slice_header.md R306); absent operands are 0. -/
structure Mmco where
  op : Nat
  a : Nat
  b : Nat
  deriving DecidableEq, Repr

/-- The slice header record `SL` (10_state.md R49): elements of 42_slice_header.md R301, the parameter sets it uses, and the reference lists. -/
structure SliceHdr where
  nalType : Nat
  nalRefIdc : Nat
  firstMb : Nat
  sliceType : Nat
  ppsId : Nat
  pps : Pps
  sps : Sps
  frameNum : Nat
  idrPicId : Nat
  pocLsb : Nat
  deltaPocBottom : Int
  deltaPoc0 : Int
  deltaPoc1 : Int
  redundantPicCnt : Nat
  directSpatial : Bool
  numRefIdxOverride : Bool
  numRefIdx0Minus1 : Nat
  numRefIdx1Minus1 : Nat
  modFlag0 : Bool
  modFlag1 : Bool
  mods0 : List (Nat × Nat)
  mods1 : List (Nat × Nat)
  weightTable : Bool
  lumaLog2Denom : Nat
  chromaLog2Denom : Nat
  weights0 : List RefWeight
  weights1 : List RefWeight
  noOutputOfPriorPics : Bool
  longTermReference : Bool
  adaptiveMarking : Bool
  mmcos : List Mmco
  cabacInitIdc : Nat
  sliceQpDelta : Int
  spForSwitch : Bool
  sliceQsDelta : Int
  disableDeblockingIdc : Nat
  alphaOffsetDiv2 : Int
  betaOffsetDiv2 : Int
  groupChangeCycle : Nat
  list0 : List (Option Nat)
  list1 : List (Option Nat)
  deriving DecidableEq, Repr

/-- The `DecoderState` `DS` (10_state.md R50), with the slice's number (43_slice_fsm.md R364) and the loop variables `moreData`, `mb_skip_flag` of R365. -/
structure Ds where
  qpY : Int
  qpYPrev : Int
  currMbAddr : Nat
  prevMbQpDeltaNonZero : Bool
  skipRunLeft : Nat
  prevMbSkipped : Bool
  mbCount : Nat
  sliceNum : Nat
  moreData : Bool
  mbSkipFlag : Bool
  deriving DecidableEq, Repr

/-! ## Macroblocks -/

/-- The macroblock types of 44_mb_syntax.md R440-R443: `i16x16 t` is I_16x16 with `t = mb_type - 1`, `p n` and `b n` the inter types by number. -/
inductive MbType where
  | iNxN
  | i16x16 (t : Nat)
  | iPcm
  | p (n : Nat)
  | b (n : Nat)
  | pSkip
  | bSkip
  deriving DecidableEq, Repr

/-- The sub-macroblock types of 44_mb_syntax.md R444, by number. -/
inductive SubType where
  | p (n : Nat)
  | b (n : Nat)
  deriving DecidableEq, Repr

/-- The motion of one 4x4 block in one list (10_state.md R48, 43_slice_fsm.md R385); `refIdx = -1` when the list is unused. -/
structure BlockMotion where
  mv : Mv
  refIdx : Int
  refPic : Option Nat
  longTerm : Bool
  mvdAbs : Mv
  deriving DecidableEq, Repr

/-- `MbInfo[a]` (10_state.md R48). -/
structure MbInfo where
  decoded : Bool
  sliceNum : Nat
  mbType : MbType
  isIntra : Bool
  isPcm : Bool
  isSkip : Bool
  isDirect16x16 : Bool
  qpY : Int
  mbQpDelta : Int
  cbpLuma : Nat
  cbpChroma : Nat
  transform8x8 : Bool
  intra4x4Mode : List Nat
  intra8x8Mode : List Nat
  intraChromaMode : Nat
  coeffLuma : List Nat
  coeffCb : List Nat
  coeffCr : List Nat
  dcLuma : Bool
  dcCb : Bool
  dcCr : Bool
  motion0 : List BlockMotion
  motion1 : List BlockMotion
  direct8x8 : List Bool
  skipFlag : Bool
  deriving DecidableEq, Repr

/-- The current macroblock record `MB` (10_state.md R51): syntax elements, levels in scan order, and the reconstructed samples in raster order. -/
structure MbRec where
  mbType : MbType
  subTypes : List SubType
  transform8x8 : Bool
  prevIntraFlag : List Bool
  remIntraMode : List Nat
  intraChromaMode : Nat
  refIdx0 : List Nat
  refIdx1 : List Nat
  mvd0 : List (List Mv)
  mvd1 : List (List Mv)
  cbp : Nat
  mbQpDelta : Int
  pcmLuma : List Nat
  pcmChroma : List Nat
  i16Dc : List Int
  i16Ac : List (List Int)
  luma4x4 : List (List Int)
  luma8x8 : List (List Int)
  chromaDc : List (List Int)
  chromaAc : List (List (List Int))
  reconY : List Int
  reconCb : List Int
  reconCr : List Int
  deriving DecidableEq, Repr

/-! ## Frames and the deblocker's input -/

/-- Reference marking (10_state.md R45). -/
inductive Mark where
  | unused | shortTerm | longTerm
  deriving DecidableEq, Repr

/-- The co-located motion of a macroblock (43_slice_fsm.md R385). -/
structure MbMotion where
  isIntra : Bool
  motion0 : List BlockMotion
  motion1 : List BlockMotion
  deriving DecidableEq, Repr

/-- The metadata of a frame buffer (10_state.md R45); its samples are in memory (20_memory.md R102). -/
structure Frame where
  inUse : Bool
  held : Bool
  mark : Mark
  frameNum : Nat
  longTermFrameIdx : Nat
  topPoc : Int
  bottomPoc : Int
  poc : Int
  w : Nat
  h : Nat
  widthInMbs : Nat
  sizeInMbs : Nat
  crop : Crop
  isIdr : Bool
  hadMmco5 : Bool
  motion : List MbMotion
  deriving DecidableEq, Repr

/-- The `DeblockerInput` entry of a macroblock (43_slice_fsm.md R386). -/
structure DbkMb where
  decoded : Bool
  sliceNum : Nat
  mbType : MbType
  isIntra : Bool
  isPcm : Bool
  qpY : Int
  transform8x8 : Bool
  nonZero : List Nat
  nonZeroCb : List Nat
  nonZeroCr : List Nat
  motion0 : List BlockMotion
  motion1 : List BlockMotion
  used0 : Bool
  used1 : Bool
  deriving DecidableEq, Repr

/-- The `DeblockerInput` record of a slice (43_slice_fsm.md R387). -/
structure DbkSlice where
  sliceNum : Nat
  sliceType : Nat
  disableDeblockingIdc : Nat
  filterOffsetA : Int
  filterOffsetB : Int
  chromaQpOffset : Int
  secondChromaQpOffset : Int
  deriving DecidableEq, Repr

/-- `DBK[h]` (10_state.md R53); `handedOver` once it has passed to the deblocking port (43_slice_fsm.md R390). -/
structure Dbk where
  mbs : List DbkMb
  slices : List DbkSlice
  handedOver : Bool
  deriving DecidableEq, Repr

/-! ## Access unit, bit reader -/

/-- The access-unit context `AU` (10_state.md R47). -/
structure Au where
  curFrame : Option Nat
  failed : Bool
  sliceCount : Nat
  nalIndex : Nat
  ended : Bool
  firstSlice : Option SliceHdr
  mbInfo : List MbInfo
  map : List Nat
  prevPocMsb : Int
  prevPocLsb : Int
  prevFrameNumOffset : Int
  prevFrameNum : Int
  prevRefHadMmco5 : Bool
  deriving DecidableEq, Repr

/-- The bit reader `BR` (10_state.md R52); `n` is the length of `rbsp`. -/
structure Br where
  rbsp : List Byte
  cursor : Nat
  stopBit : Option Nat
  deriving DecidableEq, Repr

/-! ## The model's own fields -/

/-- What the host does to the block (10_state.md R60, 20_memory.md R100, R112): register and memory accesses by address. -/
inductive HostEvent where
  | regWrite (addr size : Nat) (v : Word)
  | regRead (addr size : Nat)
  | memWrite (addr : Nat) (v : Byte)
  | memRead (addr : Nat)
  deriving DecidableEq, Repr

/-- What the host's last read returned, and the values that the registers a command writes had before the command in progress (70_reset_and_hazards.md R867; log entry 2). -/
structure Bus where
  lastRead : Word
  status : Word
  errInfo : Word
  errPos : Word
  outFrame : Word
  outPoc : Word
  nalCount : Word
  deriving DecidableEq, Repr

/-- A piece of pending work of the command in progress: an operation of the opcode table, selected by a value or by a code still to be read, or an act of the rules between two operations. -/
inductive Task where
  /-- The operation that code value `v` of a space selects. -/
  | op (sp : Space) (v : Nat)
  /-- The operation whose code the bitstream, memory or a kept command list gives next. -/
  | fetch (sp : Space)
  /-- 40_bitreader_nal.md R220 step 7. -/
  | nalDone
  /-- Keep `first_mb_in_slice` (42_slice_header.md R301). -/
  | firstMb
  /-- The rest of the header: 42_slice_header.md R300-R308. -/
  | sliceHeader
  /-- 43_slice_fsm.md R362: choose the frame, then compute the POC, then fill the frame. -/
  | alloc
  | allocFinish (h : Nat)
  /-- 49_reflist.md R785-R792, and R795 for list `x`. -/
  | lists
  | rplmStart (x : Nat)
  /-- 43_slice_fsm.md R364. -/
  | initSlice
  /-- 43_slice_fsm.md R365. -/
  | loopTop
  | skipRun
  | skipLoop (run : Nat)
  | skipNext (run : Nat)
  | skipFlag
  | mbStart (skipped : Bool)
  | loopEnd
  | endFlag
  | advance
  /-- Keep the sub-macroblock type count, then parse the rest of the macroblock layer (44_mb_syntax.md R430). -/
  | mbRest
  /-- 47_intra_pred.md R622 for block `k`, then its mode's operation. -/
  | i4Mode (k : Nat)
  | i8Mode (k : Nat)
  /-- Prepare the levels of a block and run its kernel (46_mb_decoders.md R553-R562). -/
  | luma4x4 (k : Nat)
  | luma8x8 (k : Nat)
  | lumaDc
  | chromaDc (c : Nat)
  | chromaAc (c k : Nat)
  /-- The operation of the macroblock's chroma mode for component `c` (1 Cb, 2 Cr). -/
  | chromaPred (c : Nat)
  /-- 46_mb_decoders.md R560 steps 1-2 for the `i`-th (sub-)partition, then its predictions and R600. -/
  | part (i : Nat)
  | predLuma (x : Nat)
  | predChroma (x c : Nat)
  | weight
  /-- 43_slice_fsm.md R371 steps 4-6. -/
  | writeBack
  /-- 43_slice_fsm.md R390 steps 4-5 after marking. -/
  | auEndFinish
  deriving DecidableEq, Repr

/-- A (sub-)partition: macroblock partition `p`, sub-partition `s`, luma offset and size, and the shape of 46_mb_decoders.md R565 (0 other, 1 16x8, 2 8x16); `direct` for a direct 4x4 block, `pSkip` for the P_Skip partition; `use0`, `use1` its lists. -/
structure Part where
  p : Nat
  s : Nat
  x : Nat
  y : Nat
  w : Nat
  h : Nat
  shape : Nat
  direct : Bool
  skip : Bool
  use0 : Bool
  use1 : Bool
  deriving DecidableEq, Repr

/-- The working values the rules name between two operations. -/
structure Wk where
  nalType : Nat
  nalRefIdc : Nat
  /-- The value of the last syntax element read; for `coeff_token` TotalCoeff, with TrailingOnes in `elem2`. -/
  elem : Int
  elem2 : Nat
  subIdx : Nat
  /-- The macroblock in progress, as `MbInfo` will hold it, and which 4x4 blocks have motion (46_mb_decoders.md R561). -/
  cur : MbInfo
  motDone : List Bool
  part : Part
  list : Nat
  comp : Nat
  /-- The block being predicted or transformed. -/
  blk : Nat
  plane : Nat
  bx : Nat
  by' : Nat
  size : Nat
  qp : Nat
  listIdx : Nat
  dcDone : Bool
  lvl : List Int
  coef : List Int
  res : List Int
  dcY : List Int
  dcC : List Int
  predY : List Int
  predCb : List Int
  predCr : List Int
  /-- `predPartL0`, `predPartL1` for Y, Cb, Cr of the current partition (48_interp_transform.md R683, R691). -/
  part0 : List (List Int)
  part1 : List (List Int)
  /-- The POC of the picture being allocated (49_reflist.md R751-R753): top, bottom, PicOrderCntMsb, FrameNumOffset. -/
  topPoc : Int
  bottomPoc : Int
  pocMsb : Int
  frameNumOffset : Int
  /-- The list being modified (49_reflist.md R795). -/
  rplmX : Nat
  rplmList : List (Option Nat)
  rplmIdx : Nat
  picNumPred : Int
  rplmLeft : List (Nat × Nat)
  /-- The marking operations left, and whether operation 6 marked the current picture (49_reflist.md R781). -/
  mmcoLeft : List Mmco
  curLong : Bool
  deriving DecidableEq, Repr

/-- The reference pools before an IDR picture emptied them (49_reflist.md R771 step 1), kept while its access unit may still fail (60_exceptions.md R823, R824; log entry 19): the mark of every frame, and `MaxLongTermFrameIdx`. -/
structure Pools where
  marks : List Mark
  maxLong : Option Nat
  deriving DecidableEq, Repr

/-- The state of the machine (10_state.md R40). -/
structure State where
  params : Params
  csr : Csr
  sps : List (Option Sps)
  pps : List (Option Pps)
  fs : List Frame
  maxLongTermFrameIdx : Option Nat
  savedPools : Option Pools
  au : Au
  sl : Option SliceHdr
  ds : Ds
  mb : MbRec
  br : Br
  dbk : List Dbk
  cabac : Cabac
  mem : List Host.Cell
  host : List (Nat × HostEvent)
  bus : Bus
  tasks : List Task
  wk : Wk
  freeCtr : Nat
  deriving DecidableEq, Repr

/-! ## Stops -/

/-- The machine stops with a fault. -/
inductive Fault where
  /-- Raised by the frame allocation when the frame buffer does not fit in the address space: the host has broken 70_reset_and_hazards.md R860, and the bytes do not exist. Safe. -/
  | frameStoreOutOfSpace
  deriving DecidableEq, Repr

/-- No meaning for an operation or a host act. -/
inductive Refusal where
  /-- An operation without a meaning yet. Safe. -/
  | notModelled (mnemonic : String)
  /-- A register access narrower or wider than a word (20_memory.md R106). Safe. -/
  | subWordRegister
  /-- A register access at an address that is not a multiple of 4 from `REG_BASE` (20_memory.md R107). Safe. -/
  | misalignedRegister
  /-- An access to a register address below `REG_BASE`: not this block's space (20_memory.md R100). Safe. -/
  | outsideRegisterSpace
  /-- A host write to a register other than CTRL, NAL_ADDR or NAL_LEN while busy (70_reset_and_hazards.md R866 item 1). Safe. -/
  | registerWriteWhileBusy
  /-- A host write to the NAL bytes while the NAL command runs (70_reset_and_hazards.md R866 item 2). Safe. -/
  | nalBytesWrittenWhileBusy
  /-- A host write to a frame buffer that 70_reset_and_hazards.md R866 item 3 forbids. Safe. -/
  | frameBufferWrite
  /-- A host read, while idle, of a frame before its AU_END completes or of an output frame after its release (70_reset_and_hazards.md R866 item 4). Safe. -/
  | frameBufferRead
  /-- A host memory access outside the address space (20_memory.md R100). Safe. -/
  | outsideMemory
  deriving DecidableEq, Repr

/-! ## Reset values -/

/-- The motion of an unused list (46_mb_decoders.md R560, R561). -/
def BlockMotion.none : BlockMotion := ⟨Mv.zero, -1, .none, false, Mv.zero⟩

/-- Sixteen 4x4 blocks without motion. -/
def noMotion : List BlockMotion := List.replicate 16 BlockMotion.none

/-- A macroblock that no slice has decoded: `decoded = false`, every other field as log entry 4 chooses. Absent modes, the chroma mode among them, hold 2 (10_state.md R48). -/
def MbInfo.fresh : MbInfo where
  decoded := false
  sliceNum := 0
  mbType := .iNxN
  isIntra := true
  isPcm := false
  isSkip := false
  isDirect16x16 := false
  qpY := 0
  mbQpDelta := 0
  cbpLuma := 0
  cbpChroma := 0
  transform8x8 := false
  intra4x4Mode := List.replicate 16 2
  intra8x8Mode := List.replicate 4 2
  intraChromaMode := 2
  coeffLuma := List.replicate 16 0
  coeffCb := List.replicate 4 0
  coeffCr := List.replicate 4 0
  dcLuma := false
  dcCb := false
  dcCr := false
  motion0 := noMotion
  motion1 := noMotion
  direct8x8 := List.replicate 4 false
  skipFlag := false

/-- The cleared macroblock record (10_state.md R51). R850 leaves `MB` unspecified at reset and after SRST; that it is the cleared record there is the model's choice (log entry 4). -/
def MbRec.cleared : MbRec where
  mbType := .iNxN
  subTypes := List.replicate 4 (.p 0)
  transform8x8 := false
  prevIntraFlag := List.replicate 16 false
  remIntraMode := List.replicate 16 0
  intraChromaMode := 0
  refIdx0 := List.replicate 4 0
  refIdx1 := List.replicate 4 0
  mvd0 := List.replicate 4 (List.replicate 4 Mv.zero)
  mvd1 := List.replicate 4 (List.replicate 4 Mv.zero)
  cbp := 0
  mbQpDelta := 0
  pcmLuma := List.replicate 256 0
  pcmChroma := List.replicate 128 0
  i16Dc := List.replicate 16 0
  i16Ac := List.replicate 16 (List.replicate 15 0)
  luma4x4 := List.replicate 16 (List.replicate 16 0)
  luma8x8 := List.replicate 4 (List.replicate 64 0)
  chromaDc := List.replicate 2 (List.replicate 4 0)
  chromaAc := List.replicate 2 (List.replicate 4 (List.replicate 15 0))
  reconY := List.replicate 256 0
  reconCb := List.replicate 64 0
  reconCr := List.replicate 64 0

/-- A macroblock never decoded, as co-located motion: intra with zero motion (43_slice_fsm.md R385). -/
def MbMotion.fresh : MbMotion := ⟨true, noMotion, noMotion⟩

/-- A `DeblockerInput` entry `notDecoded` (43_slice_fsm.md R386). What its other fields hold is the model's choice (log entry 42). -/
def DbkMb.fresh : DbkMb where
  decoded := false
  sliceNum := 0
  mbType := .iNxN
  isIntra := false
  isPcm := false
  qpY := 0
  transform8x8 := false
  nonZero := List.replicate 16 0
  nonZeroCb := List.replicate 4 0
  nonZeroCr := List.replicate 4 0
  motion0 := noMotion
  motion1 := noMotion
  used0 := false
  used1 := false

/-- The empty `DBK` record (10_state.md R53). -/
def Dbk.empty : Dbk := ⟨[], [], false⟩

/-- A free frame (70_reset_and_hazards.md R850). -/
def Frame.free : Frame where
  inUse := false
  held := false
  mark := .unused
  frameNum := 0
  longTermFrameIdx := 0
  topPoc := 0
  bottomPoc := 0
  poc := 0
  w := 0
  h := 0
  widthInMbs := 0
  sizeInMbs := 0
  crop := ⟨0, 0, 0, 0⟩
  isIdr := false
  hadMmco5 := false
  motion := []

/-- An SPS record with every element 0 and the inferred values of 41_parameter_sets.md R243: where a parse starts. -/
def Sps.empty : Sps where
  profileIdc := 0
  constraintFlags := 0
  reservedZero2Bits := 0
  levelIdc := 0
  id := 0
  chromaFormatIdc := 1
  separateColourPlane := false
  bitDepthLumaMinus8 := 0
  bitDepthChromaMinus8 := 0
  qpprimeBypass := false
  scalingMatrixPresent := false
  scalingLists := []
  log2MaxFrameNumMinus4 := 0
  pocType := 0
  log2MaxPocLsbMinus4 := 0
  deltaPicOrderAlwaysZero := false
  offsetForNonRefPic := 0
  offsetForTopToBottom := 0
  offsetForRefFrame := []
  maxNumRefFrames := 0
  gapsAllowed := false
  widthInMbsMinus1 := 0
  heightInMapUnitsMinus1 := 0
  frameMbsOnly := true
  mbAdaptiveFrameField := false
  direct8x8Inference := false
  frameCropping := false
  crop := ⟨0, 0, 0, 0⟩
  vuiPresent := false

/-- A PPS record with every element 0: where a parse starts. -/
def Pps.empty : Pps where
  id := 0
  spsId := 0
  cabac := false
  bottomFieldPicOrder := false
  numSliceGroupsMinus1 := 0
  mapType := 0
  runLengthMinus1 := []
  topLeft := []
  bottomRight := []
  changeDirection := false
  changeRateMinus1 := 0
  picSizeInMapUnitsMinus1 := 0
  sliceGroupId := []
  numRefIdxL0DefaultMinus1 := 0
  numRefIdxL1DefaultMinus1 := 0
  weightedPred := false
  weightedBipredIdc := 0
  picInitQpMinus26 := 0
  picInitQsMinus26 := 0
  chromaQpOffset := 0
  deblockingControlPresent := false
  constrainedIntraPred := false
  redundantPicCntPresent := false
  transform8x8Mode := false
  scalingMatrixPresent := false
  scalingLists := []
  secondChromaQpOffset := 0

/-- A slice header with the inferred values of 42_slice_header.md R309 and everything else 0: where a parse starts. -/
def SliceHdr.empty : SliceHdr where
  nalType := 0
  nalRefIdc := 0
  firstMb := 0
  sliceType := 0
  ppsId := 0
  pps := Pps.empty
  sps := Sps.empty
  frameNum := 0
  idrPicId := 0
  pocLsb := 0
  deltaPocBottom := 0
  deltaPoc0 := 0
  deltaPoc1 := 0
  redundantPicCnt := 0
  directSpatial := false
  numRefIdxOverride := false
  numRefIdx0Minus1 := 0
  numRefIdx1Minus1 := 0
  modFlag0 := false
  modFlag1 := false
  mods0 := []
  mods1 := []
  weightTable := false
  lumaLog2Denom := 0
  chromaLog2Denom := 0
  weights0 := []
  weights1 := []
  noOutputOfPriorPics := false
  longTermReference := false
  adaptiveMarking := false
  mmcos := []
  cabacInitIdc := 0
  sliceQpDelta := 0
  spForSwitch := false
  sliceQsDelta := 0
  disableDeblockingIdc := 0
  alphaOffsetDiv2 := 0
  betaOffsetDiv2 := 0
  groupChangeCycle := 0
  list0 := []
  list1 := []

/-- The registers after reset (70_reset_and_hazards.md R850). -/
def Csr.reset : Csr where
  nalAddr := 0
  nalLen := 0
  busy := false
  fsm := .idle
  auErr := false
  sliceErr := false
  warnIpcm := false
  frameValid := false
  cmdErr := false
  errCode := 0
  errInfo := 0xFFFFFFFF
  errPos := 0
  outFrame := 0
  outHandle := 0
  outPoc := 0
  relHandle := 0
  frameBase := 0
  nalCount := 0

/-- `AU` after reset (70_reset_and_hazards.md R850). -/
def Au.reset : Au where
  curFrame := .none
  failed := false
  sliceCount := 0
  nalIndex := 0
  ended := true
  firstSlice := .none
  mbInfo := []
  map := []
  prevPocMsb := 0
  prevPocLsb := 0
  prevFrameNumOffset := 0
  prevFrameNum := 0
  prevRefHadMmco5 := false

/-- `DS` when no slice is in progress (log entry 4). -/
def Ds.reset : Ds := ⟨0, 0, 0, false, 0, false, 0, 0, false, false⟩

/-- `BR` after reset (10_state.md R52). -/
def Br.reset : Br := ⟨[], 0, .none⟩

/-- The CABAC engine after reset: unspecified, and the value log entry 4 names. -/
def Cabac.reset : Cabac := ⟨[], 0, 0, ⟨[], 0, 0⟩⟩

/-- The whole-macroblock partition. -/
def Part.whole : Part := ⟨0, 0, 0, 0, 16, 16, 0, false, false, true, false⟩

/-- The working values after reset (log entry 6). -/
def Wk.reset : Wk where
  nalType := 0
  nalRefIdc := 0
  elem := 0
  elem2 := 0
  subIdx := 0
  cur := MbInfo.fresh
  motDone := List.replicate 16 false
  part := Part.whole
  list := 0
  comp := 0
  blk := 0
  plane := 0
  bx := 0
  by' := 0
  size := 4
  qp := 0
  listIdx := 0
  dcDone := false
  lvl := []
  coef := []
  res := []
  dcY := []
  dcC := []
  predY := List.replicate 256 0
  predCb := List.replicate 64 0
  predCr := List.replicate 64 0
  part0 := [[], [], []]
  part1 := [[], [], []]
  topPoc := 0
  bottomPoc := 0
  pocMsb := 0
  frameNumOffset := 0
  rplmX := 0
  rplmList := []
  rplmIdx := 0
  picNumPred := 0
  rplmLeft := []
  mmcoLeft := []
  curLong := false

/-- The parameters the reset state carries: the spec's defaults `NUM_FRAMES = 17`, `ADDR_W = 32`, and for the others the values of log entry 5. -/
def Params.default : Params where
  hwId := 0
  numFrames := 17
  maxWidthMbs := 120
  maxHeightMbs := 68
  maxNalBytes := 0x400000
  addrW := 32
  refIsDeblocked := false
  regBase := 0
  cabacEngine := .procedures
  busErrors := .none

/-- The machine after power-on reset (70_reset_and_hazards.md R850). What R850 leaves unspecified, the contents of `MB` among it, has the values of log entry 4. -/
def State.reset : State where
  params := Params.default
  csr := Csr.reset
  sps := List.replicate 32 .none
  pps := List.replicate 256 .none
  fs := List.replicate 17 Frame.free
  maxLongTermFrameIdx := .none
  savedPools := .none
  au := Au.reset
  sl := .none
  ds := Ds.reset
  mb := MbRec.cleared
  br := Br.reset
  dbk := List.replicate 17 Dbk.empty
  cabac := Cabac.reset
  mem := []
  host := []
  bus := ⟨0, 0, 0, 0, 0, 0, 0⟩
  tasks := []
  wk := Wk.reset
  freeCtr := 0

end Sys2Proof.Machine
end

