-- ==== Sys2Proof/Machine/Ops.lean ====
section
/-! DEFINITION. The named operations over state: memory (20_memory.md), setters, the pending work, and taking an error with its scopes (60_exceptions.md R810-R822), which is this block's "exception" (R836), with the return from it. -/

namespace Sys2Proof.Machine

/-! ## Memory: strictly rising addresses; an unlisted address holds no known value -/

/-- The canonical form: addresses strictly rising. -/
def Mem.wf : List Host.Cell → Bool
  | [] => true
  | [_] => true
  | c :: d :: r => decide (c.1 < d.1) && Mem.wf (d :: r)

/-- The byte at an address, if something has written it. -/
def Mem.read : List Host.Cell → Nat → Option Byte
  | [], _ => none
  | c :: r, a => if c.1 = a then some c.2 else if a < c.1 then none else Mem.read r a

/-- Write one byte (20_memory.md R108: only the byte written changes). -/
def Mem.write : List Host.Cell → Nat → Byte → List Host.Cell
  | [], a, v => [(a, v)]
  | c :: r, a, v =>
    if a < c.1 then (a, v) :: c :: r
    else if a = c.1 then (a, v) :: r
    else c :: Mem.write r a v

/-- Give the `n` bytes from address `lo` on the values `f`; every other byte stays. -/
def Mem.fill (m : List Host.Cell) (lo n : Nat) (f : Nat → Byte) : List Host.Cell :=
  m.filter (fun c => decide (c.1 < lo)) ++ (List.range n).map (fun i => (lo + i, f (lo + i)))
    ++ m.filter (fun c => decide (lo + n ≤ c.1))

/-- Write bytes at given addresses, in order. -/
def Mem.writeAll (m : List Host.Cell) (ws : List (Nat × Byte)) : List Host.Cell :=
  ws.foldl (fun m w => Mem.write m w.1 w.2) m

/-- What a read of one byte returns: the byte written last, or the free value of an unwritten byte (92_eei_decisions.md D14). -/
def State.byteAt (s : State) (a : Nat) : Byte := (Mem.read s.mem a).getD (Config.freeByte a)

/-! ## Setters -/

def State.setCsr (s : State) (c : Csr) : State := { s with csr := c }
def State.setSps (s : State) (t : List (Option Sps)) : State := { s with sps := t }
def State.setPps (s : State) (t : List (Option Pps)) : State := { s with pps := t }
def State.setFs (s : State) (t : List Frame) : State := { s with fs := t }
def State.setMaxLong (s : State) (m : Option Nat) : State := { s with maxLongTermFrameIdx := m }
def State.setSavedPools (s : State) (p : Option Pools) : State := { s with savedPools := p }
def State.setAu (s : State) (a : Au) : State := { s with au := a }
def State.setSl (s : State) (h : Option SliceHdr) : State := { s with sl := h }
def State.setDs (s : State) (d : Ds) : State := { s with ds := d }
def State.setMb (s : State) (m : MbRec) : State := { s with mb := m }
def State.setBr (s : State) (b : Br) : State := { s with br := b }
def State.setDbk (s : State) (d : List Dbk) : State := { s with dbk := d }
def State.setCabac (s : State) (c : Cabac) : State := { s with cabac := c }
def State.setMem (s : State) (m : List Host.Cell) : State := { s with mem := m }
def State.setHost (s : State) (q : List (Nat × HostEvent)) : State := { s with host := q }
def State.setBus (s : State) (b : Bus) : State := { s with bus := b }
def State.setTasks (s : State) (t : List Task) : State := { s with tasks := t }
def State.setWk (s : State) (w : Wk) : State := { s with wk := w }

/-- Put work in front of the pending work. -/
def State.push (s : State) (ts : List Task) : State := s.setTasks (ts ++ s.tasks)

/-- A free value's index, and the counter advanced. -/
def State.drawn (s : State) (n : Nat) : State := { s with freeCtr := s.freeCtr + n }

/-- The header of the slice in progress (empty when there is none, 10_state.md R49). -/
def State.hdr (s : State) : SliceHdr := s.sl.getD SliceHdr.empty

/-- Replace one entry of a list. -/
def setAt {α : Type} (l : List α) (i : Nat) (v : α) : List α := l.set i v

/-- Change one frame. -/
def State.updFrame (s : State) (h : Nat) (f : Frame → Frame) : State := s.setFs (s.fs.modify h f)

/-- The frame of a handle. -/
def State.frame (s : State) (h : Nat) : Frame := s.fs.getD h Frame.free

/-! ## The reference pools that a failed picture leaves -/

/-- A frame with a mark it had before: in use again. -/
def Frame.remark (f : Frame) (m : Mark) : Frame := if m = .unused then f else { f with mark := m, inUse := true }

/-- The pools as the last successful access unit left them (60_exceptions.md R823, R824), if an IDR picture has emptied them. -/
def State.restorePools (s : State) : State :=
  match s.savedPools with
  | none => s
  | some p =>
    ((s.setFs (s.fs.mapIdx fun i f => f.remark (p.marks.getD i .unused))).setMaxLong p.maxLong).setSavedPools none

/-! ## Errors -/

/-- The code of 60_exceptions.md R812. -/
def ErrCode.code : ErrCode → Byte
  | .bits => 1
  | .invalid => 2
  | .unsupported => 3
  | .psMissing => 4
  | .noFrame => 5
  | .mark => 6

/-- The macroblock field of ERR_INFO (60_exceptions.md R813). -/
def State.errMb (s : State) : Nat := if s.csr.fsm = .decoding then s.ds.currMbAddr else 0xFFFF

/-- ERR_INFO for an error now (10_state.md R66). -/
def State.errInfoNow (s : State) : Word :=
  BitVec.ofNat 16 s.au.nalIndex ++ BitVec.ofNat 16 s.errMb

/-- `record(E)` at a bit position (60_exceptions.md R813): only the first error of an access unit is kept. -/
def State.recordAt (s : State) (e : ErrCode) (pos : Nat) : State :=
  if s.csr.errCode = 0 then
    s.setCsr { s.csr with errCode := e.code, errInfo := s.errInfoNow, errPos := BitVec.ofNat 32 pos }
  else s

/-- `record(E)` at `BR.cursor`. -/
def State.record (s : State) (e : ErrCode) : State := s.recordAt e s.br.cursor

/-- The end of a slice, normal or not: `SL` and `DS` are discarded and the state machine is Complete (43_slice_fsm.md R388, R360). -/
def State.sliceEnd (s : State) : State :=
  ((s.setCsr { s.csr with fsm := .complete }).setSl none).setDs Ds.reset

/-- What is left of the command after its work is abandoned: a busy NAL command is completed (40_bitreader_nal.md R220 step 7). -/
def State.abandon (s : State) : State := s.setTasks (if s.csr.busy then [.nalDone] else [])

/-- Whether a slice is in progress (43_slice_fsm.md R360). -/
def State.inSlice (s : State) : Bool :=
  match s.csr.fsm with
  | .created | .headerParsed | .decoding => true
  | .idle | .complete => false

/-- Nothing of an unfinished macroblock or list is left behind (60_exceptions.md R823): `MB` is cleared, and so are the working values. -/
def State.dropPartial (s : State) : State := (s.setMb MbRec.cleared).setWk Wk.reset

/-- Slice abort (60_exceptions.md R821). -/
def State.sliceAbort (s : State) : State :=
  ((s.setCsr { s.csr with sliceErr := true }).sliceEnd).dropPartial.abandon

/-- Access-unit failure (60_exceptions.md R820). -/
def State.auFail (s : State) : State :=
  ((s.setAu { s.au with failed := true }).sliceEnd).dropPartial.abandon

/-- `raise E` (60_exceptions.md R810): record the error, then leave by the path of its scope: in a slice, access-unit failure for E_PS_MISSING and E_NO_FRAME and slice abort for the others; outside a slice, the NAL unit ends (R822). -/
def State.raise (s : State) (e : ErrCode) : State :=
  let r := s.record e
  if s.inSlice then
    match e with
    | .psMissing | .noFrame => r.auFail
    | .bits | .invalid | .unsupported | .mark => r.sliceAbort
  else r.abandon

/-- The end of a NAL command, normal or after an error: the return from an error is the completion of its command (60_exceptions.md R836, 40_bitreader_nal.md R220 step 7). -/
def State.nalDone (s : State) : State :=
  (s.setAu { s.au with nalIndex := s.au.nalIndex + 1 }).setCsr
    { s.csr with nalCount := s.csr.nalCount + 1, busy := false }

/-! ## Blocks of samples and levels, row-major -/

/-- Element `i` of a list of integers, 0 outside. -/
def at0 (l : List Int) (i : Nat) : Int := l.getD i 0

/-- The `w x h` block of values `f x y`, row by row. -/
def block (w h : Nat) (f : Nat → Nat → Int) : List Int :=
  (List.range (w * h)).map fun i => f (i % w) (i / w)

/-- A plane of width `pw` with a `w x h` block of values replaced at `(x0, y0)`. -/
def setBlock (plane : List Int) (pw x0 y0 w h : Nat) (vals : List Int) : List Int :=
  plane.mapIdx fun i v =>
    let x := i % pw
    let y := i / pw
    if x0 ≤ x ∧ x < x0 + w ∧ y0 ≤ y ∧ y < y0 + h then at0 vals ((y - y0) * w + (x - x0)) else v

end Sys2Proof.Machine
end

