-- ==== Sys2Proof/Machine/Flags.lean ====
section
/-! DEFINITION. The STATUS flags (10_state.md R65, R71: the block has no arithmetic flags) and the words the host reads. -/

namespace Sys2Proof.Machine

/-- The number of a slice state in STATUS (10_state.md R65). -/
def Fsm.code : Fsm → Nat
  | .idle => 0
  | .created => 1
  | .headerParsed => 2
  | .decoding => 3
  | .complete => 4

/-- STATUS as a word (10_state.md R65). -/
def Csr.statusWord (c : Csr) : Word :=
  BitVec.ofNat 32 (c.busy.toNat + 2 * c.fsm.code + 16 * c.auErr.toNat + 32 * c.sliceErr.toNat
    + 64 * c.warnIpcm.toNat + 128 * c.frameValid.toNat + 256 * c.cmdErr.toNat
    + 65536 * c.errCode.toNat)

/-- The flags a new access unit clears (60_exceptions.md R830). -/
def Csr.clearForAu (c : Csr) : Csr :=
  { c with auErr := false, sliceErr := false, warnIpcm := false, frameValid := false,
           errCode := 0, errInfo := 0xFFFFFFFF, errPos := 0 }

/-- `STATUS.WARN_IPCM <- 1` (60_exceptions.md R814). -/
def State.warnIpcm (s : State) : State := s.setCsr { s.csr with warnIpcm := true }

/-- `STATUS.CMD_ERR <- b` (10_state.md R63). -/
def State.setCmdErr (s : State) (b : Bool) : State := s.setCsr { s.csr with cmdErr := b }

/-- `BUSY <- 1` for a command, keeping the register values it started from (70_reset_and_hazards.md R867). -/
def State.setBusy (s : State) : State :=
  (s.setBus { s.bus with status := s.csr.statusWord, errInfo := s.csr.errInfo, errPos := s.csr.errPos,
                         outFrame := s.csr.outFrame, outPoc := s.csr.outPoc, nalCount := s.csr.nalCount }).setCsr
    { s.csr with busy := true }

end Sys2Proof.Machine
end

