-- ==== Sys2Proof/Machine/Arith.lean ====
section
/-! DEFINITION. The integer functions of 00_scope.md R13, R14. -/

namespace Sys2Proof.Machine

/-- `Clip3(lo, hi, v)`. -/
def clip3 (lo hi v : Int) : Int := if v < lo then lo else if v > hi then hi else v

/-- `Clip1(v)` (92_eei_decisions.md D8). -/
def clip1 (v : Int) : Int := clip3 0 255 v

/-- `v >> k`: floor division by a power of two (00_scope.md R13). -/
def sar (v : Int) (k : Nat) : Int := v / (2 : Int) ^ k

/-- `v << k`. -/
def shl (v : Int) (k : Nat) : Int := v * (2 : Int) ^ k

/-- `x / y` truncating toward zero. -/
def tdiv (x y : Int) : Int := Int.tdiv x y

/-- `Median(a, b, c)`. -/
def median (a b c : Int) : Int := a + b + c - min a (min b c) - max a (max b c)

/-- `Ceil(Log2(n))` for `n ≥ 1`, 0 for 0. -/
def ceilLog2 (n : Nat) : Nat := if n ≤ 1 then 0 else Nat.log2 (n - 1) + 1

/-- `|v|`. -/
def iabs (v : Int) : Int := v.natAbs

/-- The sum of `f 0 .. f (n-1)`. -/
def sumTo (n : Nat) (f : Nat → Int) : Int := (List.range n).foldl (fun a i => a + f i) 0

/-- A value is in -32768..32767 (92_eei_decisions.md D11). -/
def in16 (v : Int) : Bool := decide (-32768 ≤ v) && decide (v ≤ 32767)

/-- Both components of a vector fit (92_eei_decisions.md D11). -/
def mvIn16 (m : Mv) : Bool := in16 m.x && in16 m.y

end Sys2Proof.Machine
end

