-- ==== Sys2Proof/Machine/Tables.lean ====
section
/-! DEFINITION. The tables of the spec: scans and normalisation (48_interp_transform.md), scaling-list defaults (41_parameter_sets.md), CAVLC codes (44_mb_syntax.md), CABAC offsets (45_cabac_syntax.md). -/

namespace Sys2Proof.Machine

/-- `ZZ4` (48_interp_transform.md R720). -/
def zz4 : List Nat := [0, 1, 4, 8, 5, 2, 3, 6, 9, 12, 13, 10, 7, 11, 14, 15]

/-- `ZZ8` (R720). -/
def zz8 : List Nat :=
  [0, 1, 8, 16, 9, 2, 3, 10, 17, 24, 32, 25, 18, 11, 4, 5,
   12, 19, 26, 33, 40, 48, 41, 34, 27, 20, 13, 6, 7, 14, 21, 28,
   35, 42, 49, 56, 57, 50, 43, 36, 29, 22, 15, 23, 30, 37, 44, 51,
   58, 59, 52, 45, 38, 31, 39, 46, 53, 60, 61, 54, 47, 55, 62, 63]

/-- `v4[m]` (R721). -/
def v4 : List (List Int) := [[10, 16, 13], [11, 18, 14], [13, 20, 16], [14, 23, 18], [16, 25, 20], [18, 29, 23]]

/-- `v8[m]` (R721). -/
def v8 : List (List Int) :=
  [[20, 18, 32, 19, 25, 24], [22, 19, 35, 21, 28, 26], [26, 23, 42, 24, 33, 31],
   [28, 25, 45, 26, 35, 33], [32, 28, 51, 30, 40, 38], [36, 32, 58, 34, 46, 43]]

/-- `normAdjust4x4(m, y, x)` (R721). -/
def normAdjust4x4 (m y x : Nat) : Int :=
  at0 (v4.getD m []) (if x % 2 = 0 ∧ y % 2 = 0 then 0 else if x % 2 = 1 ∧ y % 2 = 1 then 1 else 2)

/-- `normAdjust8x8(m, y, x)` (R721). -/
def normAdjust8x8 (m y x : Nat) : Int :=
  at0 (v8.getD m [])
    (if x % 4 = 0 ∧ y % 4 = 0 then 0
     else if x % 2 = 1 ∧ y % 2 = 1 then 1
     else if x % 4 = 2 ∧ y % 4 = 2 then 2
     else if (x % 4 = 0 ∧ y % 2 = 1) ∨ (x % 2 = 1 ∧ y % 4 = 0) then 3
     else if (x % 4 = 0 ∧ y % 4 = 2) ∨ (x % 4 = 2 ∧ y % 4 = 0) then 4
     else 5)

/-- `QPcTab` (R725). -/
def qpcTab : List Int := [29, 30, 31, 32, 32, 33, 34, 34, 35, 35, 36, 36, 37, 37, 37, 38, 38, 38, 39, 39, 39, 39]

/-- `QPc` of `qPI` (R725). -/
def qpcOf (qpi : Int) : Int := if qpi < 30 then qpi else at0 qpcTab (qpi - 30).toNat

/-- The default scaling lists (41_parameter_sets.md R261). -/
def default4x4Intra : List Nat := [6, 13, 13, 20, 20, 20, 28, 28, 28, 28, 32, 32, 32, 37, 37, 42]

def default4x4Inter : List Nat := [10, 14, 14, 20, 20, 20, 24, 24, 24, 24, 27, 27, 27, 30, 30, 34]

def default8x8Intra : List Nat :=
  [6, 10, 10, 13, 11, 13, 16, 16, 16, 16, 18, 18, 18, 18, 18, 23,
   23, 23, 23, 23, 23, 25, 25, 25, 25, 25, 25, 25, 27, 27, 27, 27,
   27, 27, 27, 27, 29, 29, 29, 29, 29, 29, 29, 31, 31, 31, 31, 31,
   31, 33, 33, 33, 33, 33, 36, 36, 36, 36, 38, 38, 38, 40, 40, 42]

def default8x8Inter : List Nat :=
  [9, 13, 13, 15, 13, 15, 17, 17, 17, 17, 19, 19, 19, 19, 19, 21,
   21, 21, 21, 21, 21, 22, 22, 22, 22, 22, 22, 22, 24, 24, 24, 24,
   24, 24, 24, 24, 25, 25, 25, 25, 25, 25, 25, 27, 27, 27, 27, 27,
   27, 28, 28, 28, 28, 28, 30, 30, 30, 30, 32, 32, 32, 33, 33, 35]

/-- The default list of list `i` (41_parameter_sets.md R262). -/
def defaultList (i : Nat) : List Nat :=
  if i < 3 then default4x4Intra
  else if i < 6 then default4x4Inter
  else if i % 2 = 0 then default8x8Intra
  else default8x8Inter

/-- The flat list of list `i` (41_parameter_sets.md R260). -/
def flatList (i : Nat) : List Nat := List.replicate (if i < 6 then 16 else 64) 16

/-- `me(v)`, column Intra_4x4, Intra_8x8 (44_mb_syntax.md R452). -/
def meIntra : List Nat :=
  [47, 31, 15, 0, 23, 27, 29, 30, 7, 11, 13, 14, 39, 43, 45, 46, 16, 3, 5, 10, 12, 19, 21, 26,
   28, 35, 37, 42, 44, 1, 2, 4, 8, 17, 18, 20, 24, 6, 9, 22, 25, 32, 33, 34, 36, 40, 38, 41]

/-- `me(v)`, column Inter (R452). -/
def meInter : List Nat :=
  [0, 16, 1, 2, 4, 8, 32, 3, 5, 10, 12, 15, 47, 7, 11, 13, 14, 6, 9, 31, 35, 37, 42, 44,
   33, 34, 36, 40, 39, 43, 45, 46, 17, 18, 20, 24, 19, 21, 26, 28, 23, 27, 29, 30, 22, 25, 38, 41]

/-- A code word written as its bits. -/
def bits (n v : Nat) : List Bool := natToBits n v

/-- A prefix code: its code words and their values. -/
abbrev CodeTable (α : Type) := List (List Bool × α)

/-- `CoeffTokenTable[nCClass]` (44_mb_syntax.md R463), value (TrailingOnes, TotalCoeff): the entries the spec lists, then the OPEN ones inside the rule's bounds. -/
def coeffTokenTable (cls : Nat) : CodeTable (Nat × Nat) :=
  let known : CodeTable (Nat × Nat) :=
    match cls with
    | 0 => [(bits 1 1, (0, 0)), (bits 2 1, (1, 1)), (bits 3 1, (2, 2))]
    | 4 => [(bits 2 1, (0, 0)), (bits 1 1, (1, 1))]
    | _ => []
  known ++ ((Config.coeffTokenRest cls).filter fun e =>
    decide (e.1 ≠ []) && decide (e.2.1 ≤ 3) && decide (e.2.1 ≤ e.2.2) && decide (e.2.2 ≤ if cls = 4 then 4 else 16))

/-- `nCClass` of `nC` (R463): 0, 1, 2, 3 for 0..1, 2..3, 4..7, 8 and more, 4 for -1. -/
def nCClass (nC : Int) : Nat :=
  if nC = -1 then 4 else if nC < 2 then 0 else if nC < 4 then 1 else if nC < 8 then 2 else 3

/-- `TotalZerosTable4x4[TotalCoeff]` and `TotalZerosTableChromaDC[TotalCoeff]` (R466). -/
def totalZerosTable (chromaDc : Bool) (totalCoeff : Nat) : CodeTable Nat :=
  if chromaDc then
    (if totalCoeff = 1 then [(bits 1 1, 0), (bits 2 1, 1), (bits 3 1, 2), (bits 3 0, 3)] else [])
      ++ ((Config.totalZerosRestDc totalCoeff).filter fun e =>
            decide (e.1 ≠ []) && decide (e.2 + totalCoeff ≤ 4))
  else
    (match totalCoeff with
      | 1 => [(bits 1 1, 0), (bits 3 3, 1), (bits 3 2, 2)]
      | 2 => [(bits 3 5, 2), (bits 3 4, 3), (bits 4 4, 6)]
      | _ => [])
      ++ ((Config.totalZerosRest4x4 totalCoeff).filter fun e =>
            decide (e.1 ≠ []) && decide (e.2 + totalCoeff ≤ 16))

/-- `run_before` by `zerosLeft` (R465). -/
def runBeforeTable (zerosLeft : Nat) : CodeTable Nat :=
  match zerosLeft with
  | 0 => []
  | 1 => [(bits 1 1, 0), (bits 1 0, 1)]
  | 2 => [(bits 1 1, 0), (bits 2 1, 1), (bits 2 0, 2)]
  | 3 => [(bits 2 3, 0), (bits 2 2, 1), (bits 2 1, 2), (bits 2 0, 3)]
  | 4 => [(bits 2 3, 0), (bits 2 2, 1), (bits 2 1, 2), (bits 3 1, 3), (bits 3 0, 4)]
  | 5 => [(bits 2 3, 0), (bits 2 2, 1), (bits 3 3, 2), (bits 3 2, 3), (bits 3 1, 4), (bits 3 0, 5)]
  | 6 => [(bits 2 3, 0), (bits 3 0, 1), (bits 3 1, 2), (bits 3 3, 3), (bits 3 2, 4), (bits 3 5, 5), (bits 3 4, 6)]
  | _ => [(bits 3 7, 0), (bits 3 6, 1), (bits 3 5, 2), (bits 3 4, 3), (bits 3 3, 4), (bits 3 2, 5), (bits 3 1, 6)]
      ++ (List.range 8).map fun i => (bits (i + 4) 1, i + 7)

/-- `ctxBlockCatOffset` (45_cabac_syntax.md R531): coded_block_flag, significant/last, coeff_abs_level_minus1. -/
def cbfOffset (cat : Nat) : Nat := [0, 4, 8, 12, 16].getD cat 0

def sigOffset (cat : Nat) : Nat := [0, 15, 29, 44, 47].getD cat 0

def absOffset (cat : Nat) : Nat := [0, 10, 20, 30, 39].getD cat 0

/-- `SigCtx8x8`, `LastCtx8x8` (R534). -/
def sigCtx8x8 : List Nat :=
  [0, 1, 2, 3, 4, 5, 5, 4, 4, 3, 3, 4, 4, 4, 5, 5, 4, 4, 4, 4, 3,
   3, 6, 7, 7, 7, 8, 9, 10, 9, 8, 7, 7, 6, 11, 12, 13, 11, 6, 7, 8, 9,
   14, 10, 9, 8, 6, 11, 12, 13, 11, 6, 9, 14, 10, 9, 11, 12, 13, 11, 14, 10, 12]

def lastCtx8x8 : List Nat :=
  [0, 1, 1, 1, 1, 1, 1, 1, 1, 1, 1, 1, 1, 1, 1, 1, 2, 2, 2, 2, 2,
   2, 2, 2, 2, 2, 2, 2, 2, 2, 2, 2, 3, 3, 3, 3, 3, 3, 3, 3, 4, 4,
   4, 4, 4, 4, 4, 4, 5, 5, 5, 5, 6, 6, 6, 6, 7, 7, 7, 7, 8, 8, 8]

end Sys2Proof.Machine
end

