-- ==== Sys2Proof/Machine/Operands.lean ====
section
/-! DEFINITION. Operand forms: the bit reader and every descriptor's reader (40_bitreader_nal.md R210-R219, 44_mb_syntax.md R463-R466), and the neighbouring locations that predictions and contexts read (43_slice_fsm.md R369-R374). -/

namespace Sys2Proof.Machine

/-! ## The bit reader -/

/-- What parsing changes: the bit reader, the CABAC engine, the macroblock record and the macroblock in progress; and which engine it is, which no parsing changes. -/
structure Ps where
  br : Br
  cabac : Cabac
  mb : MbRec
  cur : MbInfo
  kind : EngineKind
  deriving DecidableEq, Repr

/-- A reader: it changes only `Ps`, and may raise an error. -/
abbrev Rd := EStateM ErrCode Ps

/-- Emulation-prevention removal (40_bitreader_nal.md R210); `zeros` counts the zero bytes kept last. -/
def stripEpb (zeros : Nat) : List Byte → List Byte
  | [] => []
  | b :: r =>
    if zeros ≥ 2 ∧ b = 3 then stripEpb 0 r
    else b :: stripEpb (if b = 0 then zeros + 1 else 0) r

/-- The position of the lowest set bit of a nonzero byte, searched from bit `i` up. -/
def lowestSet (b : Byte) : Nat → Nat → Nat
  | 0, i => i
  | f + 1, i => if b.getLsbD i then i else lowestSet b f (i + 1)

/-- The bit index of the `rbsp_stop_one_bit` of bytes that start at index `k` (40_bitreader_nal.md R211). -/
def stopBitFrom (k : Nat) : List Byte → Option Nat
  | [] => none
  | b :: r =>
    match stopBitFrom (k + 1) r with
    | some p => some p
    | none => if b = 0 then none else some (8 * k + 7 - lowestSet b 7 0)

/-- `BR` for an RBSP (40_bitreader_nal.md R211). -/
def Br.ofRbsp (rbsp : List Byte) : Br := ⟨rbsp, 0, stopBitFrom 0 rbsp⟩

/-- `bit(p)` (40_bitreader_nal.md R212); 0 past the end. -/
def Br.bit (b : Br) (p : Nat) : Bool := (b.rbsp.getD (p / 8) 0).getMsbD (p % 8)

/-- The bits from the cursor on, at most `n`, none past the end. -/
def Br.window (b : Br) (n : Nat) : List Bool :=
  (List.range (min n (8 * b.rbsp.length - b.cursor))).map fun j => b.bit (b.cursor + j)

/-- `next_bits`: `n` bits, 0 past the end (40_bitreader_nal.md R212). -/
def Br.nextBits (b : Br) (n : Nat) : List Bool := (List.range n).map fun j => b.bit (b.cursor + j)

/-- `more_rbsp_data()` (40_bitreader_nal.md R213). -/
def Br.moreRbspData (b : Br) : Bool :=
  match b.stopBit with
  | none => false
  | some p => decide (b.cursor < p)

/-- Move the cursor. -/
def Br.advance (b : Br) (n : Nat) : Br := { b with cursor := b.cursor + n }

/-- `read_bits(n)` (40_bitreader_nal.md R212). -/
def readBits (n : Nat) : Rd Nat := fun ps =>
  if ps.br.cursor + n > 8 * ps.br.rbsp.length then .error .bits ps
  else .ok (bitsToNat (ps.br.window n)) { ps with br := ps.br.advance n }

/-- One flag, `u(1)`. -/
def readFlag : Rd Bool := do return (← readBits 1) = 1

/-- The error a code that does not decode raises (30_encoding.md R155, 40_bitreader_nal.md R212). -/
def DecodeError.err : DecodeError → ErrCode
  | .truncated => .bits
  | .malformed | .reserved => .invalid

/-- Read a self-delimiting code of at most `n` bits at the cursor. -/
def readCode {α : Type} (n : Nat) (dec : List Bool → CodeRes α) : Rd α := fun ps =>
  match dec (ps.br.window n) with
  | .ok v k => .ok v { ps with br := ps.br.advance k }
  | .error e k => .error (DecodeError.err e) { ps with br := ps.br.advance k }

/-- `ue(v)` (40_bitreader_nal.md R215). -/
def readUe : Rd Nat := readCode 64 ueDecode

/-- `se(v)` (40_bitreader_nal.md R216). -/
def readSe : Rd Int := do return seValue (← readUe)

/-- `te(v)` (40_bitreader_nal.md R217); with range maximum 0 the element is not present. -/
def readTe (cMax : Nat) : Rd Nat := do
  if cMax = 0 then return 0
  else if cMax = 1 then return 1 - (← readBits 1)
  else readUe

/-- `E_INVALID` unless a check holds. -/
def require (c : Bool) (e : ErrCode := .invalid) : Rd Unit := if c then pure () else throw e

/-- A value read with `ue(v)` that must not exceed `m`. -/
def readUeMax (m : Nat) : Rd Nat := do
  let v ← readUe
  require (decide (v ≤ m))
  return v

/-- A value read with `se(v)` that must lie in `lo..hi`. -/
def readSeIn (lo hi : Int) : Rd Int := do
  let v ← readSe
  require (decide (lo ≤ v) && decide (v ≤ hi))
  return v

/-- `me(v)`: `coded_block_pattern` in CAVLC (44_mb_syntax.md R452). -/
def readMe (intra : Bool) : Rd Nat := do
  let k ← readUeMax 47
  return (if intra then meIntra else meInter).getD k 0

/-- Run a reader for each number below `n`, in order. -/
def readEach {α : Type} (n : Nat) (f : Nat → Rd α) : Rd (List α) := (List.range n).mapM f

/-! ## CAVLC codes -/

/-- A code word of a table at the cursor. Its end past the RBSP is `E_BITS`; no code word is `E_INVALID`, or `E_BITS` when the RBSP ends inside one (44_mb_syntax.md R463, R468). After either error the cursor, and so ERR_POS, is at the code's first bit, which 60_exceptions.md R815 allows and the model chooses (log entry 43). -/
def readTable {α : Type} (t : CodeTable α) : Rd α := fun ps =>
  match t.find? fun e => e.1 == ps.br.nextBits e.1.length with
  | some e =>
    if ps.br.cursor + e.1.length > 8 * ps.br.rbsp.length then .error .bits ps
    else .ok e.2 { ps with br := ps.br.advance e.1.length }
  | none =>
    let left := ps.br.window (8 * ps.br.rbsp.length)
    if t.any fun e => left.length < e.1.length && left.isPrefixOf e.1 then .error .bits ps
    else .error .invalid ps

/-- `coeff_token`: (TrailingOnes, TotalCoeff) (44_mb_syntax.md R463). -/
def readCoeffToken (nC : Int) : Rd (Nat × Nat) := readTable (coeffTokenTable (nCClass nC))

/-- The scan of `level_prefix` (44_mb_syntax.md R464): at most 31 zeros. -/
def prefixScan (zeros : Nat) : List Bool → CodeRes Nat
  | [] => .error .truncated zeros
  | true :: _ => .ok zeros (zeros + 1)
  | false :: r => if zeros ≥ 31 then .error .malformed (zeros + 1) else prefixScan (zeros + 1) r

/-- `level_prefix` (44_mb_syntax.md R464). -/
def readLevelPrefix : Rd Nat := readCode 32 (prefixScan 0)

/-- `total_zeros` (44_mb_syntax.md R466). -/
def readTotalZeros (chromaDc : Bool) (totalCoeff : Nat) : Rd Nat :=
  readTable (totalZerosTable chromaDc totalCoeff)

/-- `run_before` (44_mb_syntax.md R465). -/
def readRunBefore (zerosLeft : Nat) : Rd Nat := readTable (runBeforeTable zerosLeft)

/-! ## Running a reader on the machine -/

/-- The part of the state that parsing works on. -/
def State.ps (s : State) : Ps := ⟨s.br, s.cabac, s.mb, s.wk.cur, s.params.cabacEngine⟩

/-- Put the parsed part back. -/
def State.setPs (s : State) (p : Ps) : State :=
  (((s.setBr p.br).setCabac p.cabac).setMb p.mb).setWk { s.wk with cur := p.cur }

/-- Parse, then go on with the value; an error is raised with the bit reader where it stopped. -/
def State.parse {α : Type} (s : State) (r : Rd α) (k : α → State → State) : State :=
  match r s.ps with
  | .ok v p => k v (s.setPs p)
  | .error e p => ((s.setBr p.br).setCabac p.cabac).raise e

/-! ## Neighbouring macroblocks and locations -/

/-- The width of the current picture in macroblocks. -/
def State.picWidth (s : State) : Nat := s.hdr.sps.widthInMbsMinus1 + 1

/-- `MbInfo[a]`. -/
def State.mbInfoAt (s : State) (a : Nat) : MbInfo := s.au.mbInfo.getD a MbInfo.fresh

/-- The four neighbouring macroblocks (43_slice_fsm.md R369). -/
inductive Nb where
  | a | b | c | d
  deriving DecidableEq, Repr

/-- The address of a neighbouring macroblock if it is available (43_slice_fsm.md R369). -/
def State.mbNb (s : State) (n : Nb) : Option Nat :=
  let cur := s.ds.currMbAddr
  let w := s.picWidth
  let addr : Int :=
    match n with
    | .a => (cur : Int) - 1
    | .b => (cur : Int) - w
    | .c => (cur : Int) - w + 1
    | .d => (cur : Int) - w - 1
  let edge : Bool :=
    match n with
    | .a | .d => decide (cur % w ≠ 0)
    | .b => true
    | .c => decide ((cur + 1) % w ≠ 0)
  if addr < 0 then none
  else
    let i := s.mbInfoAt addr.toNat
    if edge ∧ i.decoded ∧ i.sliceNum = s.ds.sliceNum then some addr.toNat else none

/-- Where a location relative to the current macroblock lies (43_slice_fsm.md R373). -/
inductive Loc where
  | unavailable
  | current (x y : Nat)
  | other (addr x y : Nat)
  deriving DecidableEq, Repr

/-- The location `(x, y)` in a plane whose macroblock is `m x m` (43_slice_fsm.md R373). A location in the current macroblock is left for the using rule to judge. -/
def State.loc (s : State) (m : Nat) (x y : Int) : Loc :=
  let xw := (x % m).toNat
  let yw := (y % m).toNat
  let nb (n : Nb) : Loc :=
    match s.mbNb n with
    | some a => .other a xw yw
    | none => .unavailable
  if y ≥ m then .unavailable
  else if x < 0 then (if y < 0 then nb .d else nb .a)
  else if x < m then (if y < 0 then nb .b else .current xw yw)
  else if y < 0 then nb .c
  else .unavailable

/-- The x offset of luma 4x4 block `k` (43_slice_fsm.md R374). -/
def blkX (k : Nat) : Nat := 8 * (k / 4 % 2) + 4 * (k % 2)

/-- The y offset of luma 4x4 block `k` (43_slice_fsm.md R374). -/
def blkY (k : Nat) : Nat := 8 * (k / 8) + 4 * (k % 4 / 2)

/-- The luma 4x4 block that holds the sample `(x, y)`. -/
def blkOf (x y : Nat) : Nat := 8 * (y / 8) + 4 * (x / 8) + 2 * (y % 8 / 4) + x % 8 / 4

/-- The macroblock information a location's macroblock has: of the macroblock in progress, or of a decoded one. -/
def State.infoOf (s : State) (cur : MbInfo) : Loc → Option (MbInfo × Nat × Nat)
  | .unavailable => none
  | .current x y => some (cur, x, y)
  | .other a x y => some (s.mbInfoAt a, x, y)

end Sys2Proof.Machine
end

