-- ==== Sys2Proof/Machine/Cabac.lean ====
section
/-! DEFINITION. The CABAC engine (45_cabac_syntax.md R500-R504), and the binarizations over any engine with its interface (R505-R535). -/

namespace Sys2Proof.Machine

/-- The interface of an engine that the binarizations use (45_cabac_syntax.md R500). -/
structure Engine (σ : Type) where
  decision : Nat → EStateM ErrCode σ Nat
  bypass : EStateM ErrCode σ Nat
  terminate : EStateM ErrCode σ Nat

/-! ## The engine's own procedures (R502) -/

/-- A bit shifted into a 9-bit register, as a number of up to 10 bits (log entry 44). -/
def shiftIn (r : BitVec 9) (b : Nat) : Nat := 2 * r.toNat + b

/-- A context after its least probable symbol. -/
def Ctx.lps (x : Ctx) : Ctx := ⟨(Config.transIdxLps x.pStateIdx).toNat, if x.pStateIdx = 0 then 1 - x.valMps else x.valMps⟩

/-- A context after its most probable symbol. -/
def Ctx.mps (x : Ctx) : Ctx := ⟨min (x.pStateIdx + 1) 62, x.valMps⟩

/-- `rLPS` of a context at a range. -/
def Ctx.rangeLps (x : Ctx) (range : BitVec 9) : BitVec 9 := (Config.rangeTabLps x.pStateIdx (range.toNat / 64 % 4)).setWidth 9

/-- `RenormD`; nine doublings bring any nonzero range to 256 or more. -/
def renorm : Nat → Rd Unit
  | 0 => pure ()
  | f + 1 => do
    let c := (← get).cabac
    if c.range < 256 then
      let b ← readBits 1
      modify fun p =>
        { p with cabac := { p.cabac with range := BitVec.ofNat 9 (shiftIn c.range 0), offset := BitVec.ofNat 9 (shiftIn c.offset b) } }
      renorm f

/-- `DecodeDecision(ctxIdx)`. -/
def decodeDecision (ctxIdx : Nat) : Rd Nat := do
  let c := (← get).cabac
  let x := c.ctx.getD ctxIdx ⟨0, 0⟩
  let lps := x.rangeLps c.range
  let range := c.range - lps
  if c.offset ≥ range then
    modify fun p => { p with cabac := { c with ctx := c.ctx.set ctxIdx x.lps, range := lps, offset := c.offset - range } }
    renorm 9
    return 1 - x.valMps
  else
    modify fun p => { p with cabac := { c with ctx := c.ctx.set ctxIdx x.mps, range := range } }
    renorm 9
    return x.valMps

/-- `DecodeBypass()`. -/
def decodeBypass : Rd Nat := do
  let b ← readBits 1
  let c := (← get).cabac
  let off := shiftIn c.offset b
  if off ≥ c.range.toNat then
    modify fun p => { p with cabac := { c with offset := BitVec.ofNat 9 (off - c.range.toNat) } }
    return 1
  else
    modify fun p => { p with cabac := { c with offset := BitVec.ofNat 9 off } }
    return 0

/-- `DecodeTerminate()`; no renormalisation when it returns 1 (R502, R504). -/
def decodeTerminate : Rd Nat := do
  let c := (← get).cabac
  let range := c.range - 2
  modify fun p => { p with cabac := { c with range := range } }
  if c.offset ≥ range then return 1
  else
    renorm 9
    return 0

/-! ## The engine as an oracle (R500) -/

/-- Bits that an operation of the engine reads, one by one. -/
def skipBits : Nat → Rd Unit
  | 0 => pure ()
  | n + 1 => do
    let _ ← readBits 1
    skipBits n

/-- `RenormD` of a codeword: the range doubled until it is 256 or more, a bit read for each doubling. -/
def Codeword.renorm : Nat → Codeword → Codeword
  | 0, w => w
  | f + 1, w => if w.range < 256 then renorm f { w with range := BitVec.ofNat 9 (shiftIn w.range 0), stop := w.stop + 1 } else w

/-- A codeword one bin longer: what R502's procedures hold and have read when the operation gives that bin. -/
def Codeword.next (w : Codeword) (op : EngineOp) (bin : Bool) : Codeword :=
  match op with
  | .decision c =>
    let x := w.ctx.getD c ⟨0, 0⟩
    let lps := x.rangeLps w.range
    if bin.toNat = x.valMps then { w with ctx := w.ctx.set c x.mps, range := w.range - lps }.renorm 9
    else { w with ctx := w.ctx.set c x.lps, range := lps }.renorm 9
  | .bypass => { w with stop := w.stop + 1 }
  | .terminate => if bin then { w with range := w.range - 2 } else { w with range := w.range - 2 }.renorm 9

/-- How many bits an oracle reads from the cursor for an operation that makes the codeword `w`: to the codeword's end after a terminating bin 1 (R504); else as many as it likes, but none past that end. It reads with `read_bits(1)` alone (R500), which has no way back, and R504 may ask for the codeword's end at its next bin (log entry 45). -/
def oracleReads (op : EngineOp) (t : EngineTurn) (w : Codeword) (cursor : Nat) : Nat :=
  if op = .terminate ∧ t.bin then w.stop - cursor else min t.reads (w.stop - cursor)

/-- An operation of an engine taken as an oracle: it reads bits, and past the end of the RBSP that is `E_BITS`; then its bin and what it holds are the oracle's. -/
def askOracle (op : EngineOp) : Rd Nat := do
  let p ← get
  let t := Config.cabacOracle op p.cabac (p.br.window (8 * p.br.rbsp.length))
  let w := p.cabac.codeword.next op t.bin
  skipBits (oracleReads op t w p.br.cursor)
  modify fun p => { p with cabac := { t.after with codeword := w } }
  return t.bin.toNat

/-- An operation of the engine that the parameter `CabacEngine` names. -/
def engineOp (op : EngineOp) (procedure : Rd Nat) : Rd Nat := fun p =>
  match p.kind with
  | .procedures => procedure p
  | .oracle => askOracle op p

/-- The block's engine: `CabacEngine` is an OPEN agent (00_scope.md R11, 92_eei_decisions.md D25), the one of R502's procedures or any other (log entry 45). -/
def engine : Engine Ps where
  decision c := engineOp (.decision c) (decodeDecision c)
  bypass := engineOp .bypass decodeBypass
  terminate := engineOp .terminate decodeTerminate

/-- The context of `(m, n)` at `SliceQPY` (R501). -/
def initCtx (mn : Int × Int) (qp : Int) : Ctx :=
  let pre := clip3 1 126 (sar (mn.1 * clip3 0 51 qp) 4 + mn.2)
  if pre ≤ 63 then ⟨(63 - pre).toNat, 0⟩ else ⟨(pre - 64).toNat, 1⟩

/-- `InitContexts(initType, SliceQPY)` (R501); context 276 is `(63, 0)`. -/
def initContexts (initType : Nat) (qp : Int) : List Ctx :=
  (List.range 460).map fun i => if i = 276 then ⟨63, 0⟩ else initCtx (Config.cabacInitMN initType i) qp

/-- The engine with every context set (R501), a codeword's contexts among them. -/
def Cabac.startContexts (c : Cabac) (ctx : List Ctx) : Cabac := { c with ctx := ctx, codeword := { c.codeword with ctx := ctx } }

/-- The engine that begins a codeword, whose first nine bits, the last before the cursor, are `v` (R500). -/
def Cabac.start (c : Cabac) (v cursor : Nat) : Cabac :=
  { c with range := 510, offset := BitVec.ofNat 9 v, codeword := { c.codeword with range := 510, stop := cursor } }

/-- `InitEngine()` (R500). -/
def initEngine : Rd Unit := do
  let v ← readBits 9
  modify fun p => { p with cabac := p.cabac.start v p.br.cursor }

/-! ## Binarization primitives (R506) -/

section
variable {σ : Type} (E : Engine σ)

/-- `U`: the number of 1 bins before a 0; `E_INVALID` once `limit` of them have been read (R520, R522). -/
def decUnary (ctxOf : Nat → Nat) : Nat → Nat → EStateM ErrCode σ Nat
  | 0, _ => throw .invalid
  | limit + 1, i => do
    if (← E.decision (ctxOf i)) = 0 then return i
    decUnary ctxOf limit (i + 1)

/-- `TU(cMax)`: `left` more bins may be 1. -/
def decTu (ctxOf : Nat → Nat) : Nat → Nat → EStateM ErrCode σ Nat
  | 0, i => return i
  | left + 1, i => do
    if (← E.decision (ctxOf i)) = 0 then return i
    decTu ctxOf left (i + 1)

/-- The bits of an `EGk` suffix after its prefix. -/
def decEgBits : Nat → Nat → EStateM ErrCode σ Nat
  | 0, v => return v
  | k + 1, v => do
    let b ← E.bypass
    decEgBits k (v + b * 2 ^ k)

/-- The `EGk` suffix added to `v`; the order may not exceed 30 (R506). -/
def decEgk : Nat → Nat → Nat → EStateM ErrCode σ Nat
  | 0, _, _ => throw .invalid
  | f + 1, k, v => do
    if (← E.bypass) = 1 then
      if k + 1 > 30 then throw .invalid
      decEgk f (k + 1) (v + 2 ^ k)
    else decEgBits E k v

/-- `DecodeUEGk` (R506). -/
def decUegk (ctxOf : Nat → Nat) (k uCoff : Nat) (signed : Bool) : EStateM ErrCode σ Int := do
  let p ← decTu E ctxOf uCoff 0
  let v ← if p = uCoff then decEgk E 32 k p else pure p
  if signed ∧ v ≠ 0 then
    if (← E.bypass) = 1 then return -(v : Int)
    return v
  return v

/-! ## Macroblock-level binarizations -/

/-- `DecodeMbTypeI` with offset and increments (R511). -/
def decMbTypeI (off i0 cl cc cc2 cp1 cp0 : Nat) : EStateM ErrCode σ Nat := do
  if (← E.decision (off + i0)) = 0 then return 0
  if (← E.terminate) = 1 then return 25
  let l ← E.decision (off + cl)
  let c0 ← E.decision (off + cc)
  let c ← if c0 = 1 then (do return 1 + (← E.decision (off + cc2))) else pure c0
  let p1 ← E.decision (off + cp1)
  let p0 ← E.decision (off + cp0)
  return 1 + (2 * p1 + p0) + 4 * c + 12 * l

/-- `mb_type` in I slices (R511). -/
def decMbTypeISlice (i0 : Nat) : EStateM ErrCode σ Nat := decMbTypeI E 3 i0 3 4 5 6 7

/-- The intra suffix in P (offset 17) and B (offset 32) slices (R511). -/
def decMbTypeISuffix (off : Nat) : EStateM ErrCode σ Nat := decMbTypeI E off 0 1 2 2 3 3

/-- `mb_type` in P slices (R512). -/
def decMbTypeP : EStateM ErrCode σ Nat := do
  if (← E.decision 14) = 0 then
    if (← E.decision 15) = 0 then return 3 * (← E.decision 16)
    return 2 - (← E.decision 17)
  return 5 + (← decMbTypeISuffix E 17)

/-- `mb_type` in B slices (R513). -/
def decMbTypeB (i0 : Nat) : EStateM ErrCode σ Nat := do
  if (← E.decision (27 + i0)) = 0 then return 0
  if (← E.decision 30) = 0 then return 1 + (← E.decision 32)
  let b3 ← E.decision 31
  let b2 ← E.decision 32
  let b1 ← E.decision 32
  let b0 ← E.decision 32
  let bits := 8 * b3 + 4 * b2 + 2 * b1 + b0
  if bits < 8 then return bits + 3
  if bits = 13 then return 23 + (← decMbTypeISuffix E 32)
  if bits = 14 then return 11
  if bits = 15 then return 22
  return 2 * bits + (← E.decision 32) - 4

/-- `sub_mb_type` in P slices (R514). -/
def decSubMbTypeP : EStateM ErrCode σ Nat := do
  if (← E.decision 21) = 1 then return 0
  if (← E.decision 22) = 0 then return 1
  if (← E.decision 23) = 1 then return 2
  return 3

/-- `sub_mb_type` in B slices (R515). -/
def decSubMbTypeB : EStateM ErrCode σ Nat := do
  if (← E.decision 36) = 0 then return 0
  if (← E.decision 37) = 0 then return 1 + (← E.decision 39)
  let more ← E.decision 38
  if more = 1 then
    if (← E.decision 39) = 1 then return 11 + (← E.decision 39)
  let b1 ← E.decision 39
  let b0 ← E.decision 39
  return 3 + 4 * more + 2 * b1 + b0

/-- `rem_intra*_pred_mode`, least significant bin first (R517). -/
def decRemIntra : EStateM ErrCode σ Nat := do
  let b0 ← E.decision 69
  let b1 ← E.decision 69
  let b2 ← E.decision 69
  return b0 + 2 * b1 + 4 * b2

/-- `intra_chroma_pred_mode` (R518). -/
def decIntraChroma (i0 : Nat) : EStateM ErrCode σ Nat :=
  decTu E (fun i => if i = 0 then 64 + i0 else 67) 3 0

/-- `ref_idx_lX` (R520). -/
def decRefIdx (inc : Nat) : EStateM ErrCode σ Nat :=
  decUnary E (fun i => if i = 0 then 54 + inc else if i = 1 then 58 else 59) 32 0

/-- The increment of the first `mvd` bin (R521). -/
def mvdInc (sum : Int) : Nat := if sum < 3 then 0 else if sum ≤ 32 then 1 else 2

/-- `mvd_lX[][][c]` (R521). -/
def decMvd (c inc0 : Nat) : EStateM ErrCode σ Int :=
  let off := if c = 0 then 40 else 47
  decUegk E (fun i => if i = 0 then off + inc0 else if i < 4 then off + 2 + i else off + 6) 3 9 true

/-- `mb_qp_delta` (R522). -/
def decQpDelta (inc : Nat) : EStateM ErrCode σ Int := do
  let k ← decUnary E (fun i => if i = 0 then 60 + inc else if i = 1 then 62 else 63) 53 0
  return seValue k

/-! ## Residual blocks (R530-R535) -/

/-- `significant_coeff_flag[i]` (R533, R534). -/
def decSig (cat i : Nat) : EStateM ErrCode σ Nat :=
  if cat = 5 then E.decision (402 + sigCtx8x8.getD i 0)
  else E.decision (105 + sigOffset cat + if cat = 3 then min i 2 else i)

/-- `last_significant_coeff_flag[i]` (R533, R534). -/
def decLast (cat i : Nat) : EStateM ErrCode σ Nat :=
  if cat = 5 then E.decision (417 + lastCtx8x8.getD i 0)
  else E.decision (166 + sigOffset cat + if cat = 3 then min i 2 else i)

/-- `coeff_abs_level_minus1` (R535). -/
def decAbsLevel (cat numGt1 numEq1 : Nat) : EStateM ErrCode σ Int :=
  let base := if cat = 5 then 426 else 227 + absOffset cat
  decUegk E (fun i =>
    if i = 0 then base + if numGt1 ≠ 0 then 0 else min 4 (1 + numEq1)
    else base + 5 + min (4 - if cat = 3 then 1 else 0) numGt1) 0 14 false

/-- The significance map from coefficient `i` on, `left` flags before the last coefficient: the significant indices, highest first (R530). -/
def decSigMap (cat : Nat) : Nat → Nat → List Nat → EStateM ErrCode σ (List Nat)
  | 0, i, acc => return i :: acc
  | left + 1, i, acc => do
    if (← decSig E cat i) = 1 then
      if (← decLast E cat i) = 1 then return i :: acc
      decSigMap cat left (i + 1) (i :: acc)
    else decSigMap cat left (i + 1) acc

/-- The levels of the significant coefficients, highest first (R530); a level outside -32768..32767 is `E_INVALID`. -/
def decLevels (cat : Nat) : List Nat → Nat → Nat → List Int → EStateM ErrCode σ (List Int)
  | [], _, _, acc => return acc
  | i :: r, gt1, eq1, acc => do
    let a ← decAbsLevel E cat gt1 eq1
    let s ← E.bypass
    let v := if s = 1 then -(a + 1) else a + 1
    if !in16 v then throw .invalid
    decLevels cat r (if a = 0 then gt1 else gt1 + 1) (if a = 0 then eq1 + 1 else eq1) (acc.set i v)

/-- `residual_block_cabac` of `n` coefficients (R530); `cbfCtx` is the context of `coded_block_flag`, absent for 8x8 blocks. -/
def decResidual (cat n : Nat) (cbfCtx : Option Nat) : EStateM ErrCode σ (List Int × Bool) := do
  let coded ←
    match cbfCtx with
    | none => pure 1
    | some c => E.decision c
  if coded = 1 then
    let sig ← decSigMap E cat (n - 1) 0 []
    let lv ← decLevels E cat sig 0 0 (List.replicate n 0)
    return (lv, true)
  return (List.replicate n 0, false)

end

end Sys2Proof.Machine
end

