-- ==== Sys2Proof/Machine/MbTypes.lean ====
section
/-! DEFINITION. The facts of the macroblock and sub-macroblock type tables (44_mb_syntax.md R440-R444) and the partitions they give. -/

namespace Sys2Proof.Machine

/-- I_NxN, I_16x16 and I_PCM (43_slice_fsm.md R384). -/
def MbType.isIntra : MbType → Bool
  | .iNxN | .i16x16 _ | .iPcm => true
  | .p _ | .b _ | .pSkip | .bSkip => false

/-- P_Skip and B_Skip. -/
def MbType.isSkip : MbType → Bool
  | .pSkip | .bSkip => true
  | .iNxN | .i16x16 _ | .iPcm | .p _ | .b _ => false

/-- I_16x16. -/
def MbType.isI16 : MbType → Bool
  | .i16x16 _ => true
  | .iNxN | .iPcm | .p _ | .b _ | .pSkip | .bSkip => false

/-- `Intra16x16PredMode` (44_mb_syntax.md R441). -/
def i16Mode (t : Nat) : Nat := t % 4

/-- `CodedBlockPatternChroma` of I_16x16 (R441). -/
def i16CbpChroma (t : Nat) : Nat := t / 4 % 3

/-- `CodedBlockPatternLuma` of I_16x16 (R441). -/
def i16CbpLuma (t : Nat) : Nat := if t ≥ 12 then 15 else 0

/-- A prediction mode of a partition. -/
inductive PredMode where
  | l0 | l1 | bi | direct
  deriving DecidableEq, Repr

def PredMode.uses0 : PredMode → Bool
  | .l0 | .bi => true
  | .l1 | .direct => false

def PredMode.uses1 : PredMode → Bool
  | .l1 | .bi => true
  | .l0 | .direct => false

/-- `NumMbPart` of an inter type (R442, R443). -/
def MbType.numParts : MbType → Nat
  | .p n => if n = 0 then 1 else if n ≤ 2 then 2 else 4
  | .b n => if n ≤ 3 then 1 else if n ≤ 21 then 2 else 4
  | .iNxN | .i16x16 _ | .iPcm | .pSkip | .bSkip => 1

/-- The modes of B types 4..21 by pairs of rows (R443). -/
def bPairModes : List (PredMode × PredMode) :=
  [(.l0, .l0), (.l1, .l1), (.l0, .l1), (.l1, .l0), (.l0, .bi), (.l1, .bi), (.bi, .l0), (.bi, .l1), (.bi, .bi)]

/-- `MbPartPredMode(mb_type, p)` of an inter type (R442, R443). -/
def MbType.partMode (t : MbType) (p : Nat) : PredMode :=
  match t with
  | .b n =>
    if n = 0 then .direct
    else if n = 1 then .l0
    else if n = 2 then .l1
    else if n = 3 then .bi
    else
      let m := bPairModes.getD ((n - 4) / 2) (.l0, .l0)
      if p = 0 then m.1 else m.2
  | .bSkip => .direct
  | .p _ | .pSkip | .iNxN | .i16x16 _ | .iPcm => .l0

/-- The shape of the partitions: 1 is 16x8, 2 is 8x16, 0 other (R442, R443). -/
def MbType.shape : MbType → Nat
  | .p n => if n = 1 then 1 else if n = 2 then 2 else 0
  | .b n => if n < 4 ∨ n > 21 then 0 else if n % 2 = 0 then 1 else 2
  | .iNxN | .i16x16 _ | .iPcm | .pSkip | .bSkip => 0

/-- `SubMbPredMode` (R444). -/
def SubType.mode : SubType → PredMode
  | .p _ => .l0
  | .b n => [PredMode.direct, .l0, .l1, .bi, .l0, .l0, .l1, .l1, .bi, .bi, .l0, .l1, .bi].getD n .l0

/-- The width and height of the sub-partitions (R444). -/
def SubType.size : SubType → Nat × Nat
  | .p n => [(8, 8), (8, 4), (4, 8), (4, 4)].getD n (8, 8)
  | .b n => [(4, 4), (8, 8), (8, 8), (8, 8), (8, 4), (4, 8), (8, 4), (4, 8), (8, 4), (4, 8), (4, 4), (4, 4), (4, 4)].getD n (8, 8)

/-- `NumSubMbPart` (R444). -/
def SubType.numParts (t : SubType) : Nat := 64 / (t.size.1 * t.size.2)

/-- B_Direct_8x8. -/
def SubType.isDirect (t : SubType) : Bool := decide (t = .b 0)

/-- The sub-partitions of 8x8 block `p` (R444): an 8x4 type at `(0, 4s)`, a 4x8 type at `(4s, 0)`, a 4x4 type in raster order. -/
def subParts (p : Nat) (t : SubType) : List Part :=
  (List.range t.numParts).map fun s =>
    let (w, h) := t.size
    let dx := if w = 8 then 0 else 4 * (s % 2)
    let dy := if h = 8 then 0 else if w = 8 then 4 * s else 4 * (s / 2)
    ⟨p, s, 8 * (p % 2) + dx, 8 * (p / 2) + dy, w, h, 0, t.isDirect, false, t.mode.uses0, t.mode.uses1⟩

/-- The sixteen direct 4x4 blocks of B_Skip and B_Direct_16x16 (46_mb_decoders.md R585). -/
def directParts : List Part :=
  (List.range 16).map fun k => ⟨k / 4, k % 4, blkX k, blkY k, 4, 4, 0, true, false, false, false⟩

/-- The (sub-)partitions of an inter macroblock in decoding order (46_mb_decoders.md R560). -/
def partsOf (t : MbType) (subs : List SubType) : List Part :=
  match t with
  | .pSkip => [{ Part.whole with skip := true }]
  | .bSkip => directParts
  | .iNxN | .i16x16 _ | .iPcm => []
  | .p _ | .b _ =>
    if t = .b 0 then directParts
    else if t.numParts = 4 then (List.range 4).flatMap fun p => subParts p (subs.getD p (.p 0))
    else (List.range t.numParts).map fun p =>
      let m := t.partMode p
      let (x, y, w, h) :=
        match t.shape with
        | 1 => (0, 8 * p, 16, 8)
        | 2 => (8 * p, 0, 8, 16)
        | _ => (0, 0, 16, 16)
      ⟨p, 0, x, y, w, h, t.shape, false, false, m.uses0, m.uses1⟩

/-- The 4x4 blocks inside a (sub-)partition (46_mb_decoders.md R561). -/
def Part.blocks (q : Part) : List Nat :=
  (List.range 16).filter fun k =>
    decide (q.x ≤ blkX k) && decide (blkX k < q.x + q.w) && decide (q.y ≤ blkY k) && decide (blkY k < q.y + q.h)

end Sys2Proof.Machine
end

