-- ==== Sys2Proof/Machine/Residual.lean ====
section
/-! DEFINITION. Residual blocks: `nC`, CAVLC levels and runs (44_mb_syntax.md R460-R468), CABAC `coded_block_flag` contexts (45_cabac_syntax.md R532, R536), and `residual()` (R437). -/

namespace Sys2Proof.Machine

/-- The number of nonzero levels. -/
def nonZeroCount (l : List Int) : Nat := (l.filter fun v => decide (v ≠ 0)).length

/-- The counts of a plane (0 luma, 1 Cb, 2 Cr) in a macroblock's information. -/
def MbInfo.coeff (i : MbInfo) (plane blk : Nat) : Nat :=
  (if plane = 0 then i.coeffLuma else if plane = 1 then i.coeffCb else i.coeffCr).getD blk 0

/-- Set the count of a block. -/
def MbInfo.setCoeff (i : MbInfo) (plane blk n : Nat) : MbInfo :=
  if plane = 0 then { i with coeffLuma := i.coeffLuma.set blk n }
  else if plane = 1 then { i with coeffCb := i.coeffCb.set blk n }
  else { i with coeffCr := i.coeffCr.set blk n }

/-- The block of a plane that holds a location. -/
def blkIn (plane x y : Nat) : Nat := if plane = 0 then blkOf x y else 2 * (y / 4) + x / 4

/-- The left (`true`) or upper location of block `blk` of a plane. -/
def State.blkNb (s : State) (plane blk : Nat) (left : Bool) : Loc :=
  let x : Int := if plane = 0 then blkX blk else 4 * (blk % 2)
  let y : Int := if plane = 0 then blkY blk else 4 * (blk / 2)
  let m := if plane = 0 then 16 else 8
  if left then s.loc m (x - 1) y else s.loc m x (y - 1)

/-- The count of a neighbouring block, if it is available (44_mb_syntax.md R461). -/
def State.nbCount (s : State) (cur : MbInfo) (plane blk : Nat) (left : Bool) : Option Nat :=
  (s.infoOf cur (s.blkNb plane blk left)).map fun (i, x, y) => i.coeff plane (blkIn plane x y)

/-- `nC` from the two neighbouring counts (44_mb_syntax.md R461). -/
def nCOf : Option Nat → Option Nat → Int
  | some a, some b => ((a + b + 1) / 2 : Nat)
  | some a, none => a
  | none, some b => b
  | none, none => 0

/-- The levels of a block, highest frequency first, from number `i` on (44_mb_syntax.md R462). -/
def cavlcLevels (t1 : Nat) : Nat → Nat → Nat → List Int → Rd (List Int)
  | 0, _, _, acc => return acc.reverse
  | left + 1, i, suffixLength, acc => do
    if i < t1 then
      let sign ← readBits 1
      cavlcLevels t1 left (i + 1) suffixLength ((1 - 2 * (sign : Int)) :: acc)
    else
      let pre ← readLevelPrefix
      let size := if pre = 14 ∧ suffixLength = 0 then 4 else if pre ≥ 15 then pre - 3 else suffixLength
      let suffix ← if suffixLength > 0 ∨ pre ≥ 14 then readBits size else pure 0
      let c0 : Nat := min 15 pre * 2 ^ suffixLength + suffix
      let c1 := if pre ≥ 15 ∧ suffixLength = 0 then c0 + 15 else c0
      let c2 := if pre ≥ 16 then c1 + 2 ^ (pre - 3) - 4096 else c1
      let c3 := if i = t1 ∧ t1 < 3 then c2 + 2 else c2
      let v : Int := if c3 % 2 = 0 then ((c3 + 2) / 2 : Nat) else sar (-(c3 : Int) - 1) 1
      require (in16 v)
      let sl := if suffixLength = 0 then 1 else suffixLength
      let sl' := if iabs v > 3 * 2 ^ (sl - 1) ∧ sl < 6 then sl + 1 else sl
      cavlcLevels t1 left (i + 1) sl' (v :: acc)

/-- The runs of a block: all but the last are coded while zeros are left (44_mb_syntax.md R462). -/
def cavlcRuns : Nat → Nat → List Nat → Rd (List Nat)
  | 0, zerosLeft, acc => return (zerosLeft :: acc).reverse
  | left + 1, zerosLeft, acc => do
    if zerosLeft > 0 then
      let r ← readRunBefore zerosLeft
      require (decide (r ≤ zerosLeft))
      cavlcRuns left (zerosLeft - r) (r :: acc)
    else cavlcRuns left 0 (0 :: acc)

/-- Place levels by their runs, lowest frequency first (44_mb_syntax.md R462). -/
def placeLevels (n : Nat) (levels : List Int) (runs : List Nat) : List Int :=
  ((levels.zip runs).reverse.foldl
    (fun (st : Int × List Int) (lr : Int × Nat) =>
      let c := st.1 + lr.2 + 1
      (c, st.2.set c.toNat lr.1))
    ((-1 : Int), List.replicate n (0 : Int))).2

/-- `residual_block_cavlc` after its `coeff_token` (44_mb_syntax.md R462). -/
def cavlcAfterToken (chromaDc : Bool) (n t1 total : Nat) : Rd (List Int) := do
  require (decide (total ≤ n))
  if total = 0 then return List.replicate n 0
  let levels ← cavlcLevels t1 total 0 (if total > 10 ∧ t1 < 3 then 1 else 0) []
  let zeros ← if total < n then readTotalZeros chromaDc total else pure 0
  require (decide (total + zeros ≤ n))
  let runs ← cavlcRuns (total - 1) zeros []
  return placeLevels n levels runs

/-- `residual_block_cavlc` of `n` coefficients at `nC` (44_mb_syntax.md R462). -/
def readCavlcBlock (nC : Int) (n : Nat) : Rd (List Int) := do
  let (t1, total) ← readCoeffToken nC
  cavlcAfterToken (decide (nC = -1)) n t1 total

/-- The macroblock-level DC flag of a plane. -/
def MbInfo.dcFlag (i : MbInfo) (plane : Nat) : Bool :=
  if plane = 0 then i.dcLuma else if plane = 1 then i.dcCb else i.dcCr

def MbInfo.setDc (i : MbInfo) (plane : Nat) (b : Bool) : MbInfo :=
  if plane = 0 then { i with dcLuma := b } else if plane = 1 then { i with dcCb := b } else { i with dcCr := b }

/-- `condTermFlagN` of `coded_block_flag` (45_cabac_syntax.md R532) for the block of neighbour `N`. -/
def State.cbfTerm (s : State) (cur : MbInfo) (cat plane blk : Nat) (left : Bool) : Nat :=
  let nb : Option (MbInfo × Nat × Nat) :=
    if cat = 0 ∨ cat = 3 then (s.mbNb (if left then .a else .b)).map fun a => (s.mbInfoAt a, 0, 0)
    else s.infoOf cur (s.blkNb plane blk left)
  match nb with
  | none => cur.isIntra.toNat
  | some (i, x, y) =>
    if i.isPcm then 1
    else if i.isSkip then 0
    else if cat = 0 then (i.mbType.isI16 && i.dcLuma).toNat
    else if cat = 3 then (i.dcFlag plane).toNat
    else (decide (i.coeff plane (blkIn plane x y) ≠ 0)).toNat

/-- The context of `coded_block_flag` (45_cabac_syntax.md R532). -/
def State.cbfCtx (s : State) (cur : MbInfo) (cat plane blk : Nat) : Nat :=
  85 + cbfOffset cat + s.cbfTerm cur cat plane blk true + 2 * s.cbfTerm cur cat plane blk false

/-- A residual block of category `cat` (45_cabac_syntax.md R531) in either entropy mode, with its flag in CABAC. -/
def readBlock (s : State) (cat plane blk n : Nat) : Rd (List Int × Bool) := do
  let cur := (← get).cur
  if s.hdr.pps.cabac then
    decResidual engine cat n (if cat = 5 then none else some (s.cbfCtx cur cat plane blk))
  else
    let nC := if cat = 3 then -1
      else nCOf (s.nbCount cur plane blk true) (s.nbCount cur plane blk false)
    let lv ← readCavlcBlock nC n
    return (lv, decide (nonZeroCount lv ≠ 0))

/-- Change the macroblock record. -/
def modMb (f : MbRec → MbRec) : Rd Unit := modify fun p => { p with mb := f p.mb }

/-- Change the macroblock in progress. -/
def modCur (f : MbInfo → MbInfo) : Rd Unit := modify fun p => { p with cur := f p.cur }

/-- The luma part of `residual()` for 8x8 block `i8` (44_mb_syntax.md R437), with the counts of R460, R536. -/
def readLuma8 (s : State) (cbpLuma : Nat) (t8 : Bool) (i8 : Nat) : Rd Unit := do
  if Nat.testBit cbpLuma i8 then
    let i16 := (← get).mb.mbType.isI16
    if t8 ∧ s.hdr.pps.cabac then
      let (lv, _) ← readBlock s 5 0 (4 * i8) 64
      modMb fun m => { m with luma8x8 := m.luma8x8.set i8 lv }
      for i4 in List.range 4 do
        modCur fun c => c.setCoeff 0 (4 * i8 + i4) (nonZeroCount lv)
    else
      for i4 in List.range 4 do
        let k := 4 * i8 + i4
        let (lv, _) ← if i16 then readBlock s 1 0 k 15 else readBlock s 2 0 k 16
        modCur fun c => c.setCoeff 0 k (nonZeroCount lv)
        if i16 then modMb fun m => { m with i16Ac := m.i16Ac.set k lv }
        else
          modMb fun m => { m with luma4x4 := m.luma4x4.set k lv }
          if t8 then
            modMb fun m => { m with luma8x8 := m.luma8x8.modify i8 (fun l8 =>
              l8.mapIdx (fun j v => if j % 4 = i4 then at0 lv (j / 4) else v)) }

/-- `residual(0, 15)` (44_mb_syntax.md R437). -/
def readResidual (s : State) (cbpLuma cbpChroma : Nat) (t8 : Bool) : Rd Unit := do
  if (← get).mb.mbType.isI16 then
    let (lv, coded) ← readBlock s 0 0 0 16
    modMb fun m => { m with i16Dc := lv }
    modCur fun c => c.setDc 0 coded
  for i8 in List.range 4 do
    readLuma8 s cbpLuma t8 i8
  for c in List.range 2 do
    if cbpChroma ≠ 0 then
      let (lv, coded) ← readBlock s 3 (c + 1) 0 4
      modMb fun m => { m with chromaDc := m.chromaDc.set c lv }
      modCur fun i => i.setDc (c + 1) coded
  for c in List.range 2 do
    for k in List.range 4 do
      if cbpChroma = 2 then
        let (lv, _) ← readBlock s 4 (c + 1) k 15
        modMb fun m => { m with chromaAc := m.chromaAc.modify c (fun l => l.set k lv) }
        modCur fun i => i.setCoeff (c + 1) k (nonZeroCount lv)

end Sys2Proof.Machine
end

