-- ==== Sys2Proof/Machine/MbLayer.lean ====
section
/-! DEFINITION. The macroblock layer: the elements of 44_mb_syntax.md R430-R433 in both entropy modes, with the contexts of 45_cabac_syntax.md R508-R523. -/

namespace Sys2Proof.Machine

/-! ## CABAC context terms from neighbours (45_cabac_syntax.md R508-R521) -/

/-- The term of a macroblock-level context: `cond` of an available neighbour. -/
def State.mbTerm (s : State) (n : Nb) (cond : MbInfo → Bool) : Nat :=
  match s.mbNb n with
  | none => 0
  | some a => (cond (s.mbInfoAt a)).toNat

/-- `condTermFlagA + condTermFlagB`. -/
def State.mbTerms (s : State) (cond : MbInfo → Bool) : Nat := s.mbTerm .a cond + s.mbTerm .b cond

/-- The block-level term for the location left of or above `(x, y)`. -/
def State.blkTerm (s : State) (cur : MbInfo) (x y : Int) (f : MbInfo → Nat → Int) : Int :=
  match s.infoOf cur (s.loc 16 x y) with
  | none => 0
  | some (i, bx, by') => f i (blkOf bx by')

/-- The motion of block `k` in list `x`. -/
def MbInfo.motion (i : MbInfo) (x k : Nat) : BlockMotion :=
  (if x = 0 then i.motion0 else i.motion1).getD k BlockMotion.none

/-- Change the motion of blocks in list `x`. -/
def MbInfo.setMotion (i : MbInfo) (x : Nat) (ks : List Nat) (f : BlockMotion → BlockMotion) : MbInfo :=
  let upd (l : List BlockMotion) : List BlockMotion := l.mapIdx fun k m => if ks.contains k then f m else m
  if x = 0 then { i with motion0 := upd i.motion0 } else { i with motion1 := upd i.motion1 }

/-- The term of `ref_idx` (45_cabac_syntax.md R520). -/
def refIdxTerm (x : Nat) (i : MbInfo) (k : Nat) : Int :=
  if !i.isIntra && !i.isSkip && !i.direct8x8.getD (k / 4) false && decide ((i.motion x k).refIdx > 0) then 1 else 0

/-- The term of a `coded_block_pattern` luma bin from 8x8 block `b8` of a neighbouring macroblock (45_cabac_syntax.md R519). -/
def cbpTerm (i : MbInfo) (b8 : Nat) : Nat :=
  if i.isPcm then 0 else if i.isSkip then 1 else if Nat.testBit i.cbpLuma b8 then 0 else 1

/-- The term for the 8x8 block at a location, `done` the bins already decoded. -/
def State.cbpLumaTerm (s : State) (done : Nat) (x y : Int) : Nat :=
  match s.loc 16 x y with
  | .unavailable => 0
  | .current bx by' => if Nat.testBit done (bx / 8 + 2 * (by' / 8)) then 0 else 1
  | .other a bx by' => cbpTerm (s.mbInfoAt a) (bx / 8 + 2 * (by' / 8))

/-- The four luma bins (45_cabac_syntax.md R519). -/
def aeCbpLuma (s : State) : Nat → Nat → Nat → Rd Nat
  | 0, _, done => return done
  | left + 1, k, done => do
    let x : Int := 8 * (k % 2)
    let y : Int := 8 * (k / 2)
    let b ← engine.decision (73 + s.cbpLumaTerm done (x - 1) y + 2 * s.cbpLumaTerm done x (y - 1))
    aeCbpLuma s left (k + 1) (done + b * 2 ^ k)

/-- `coded_block_pattern` (45_cabac_syntax.md R519). -/
def aeCbp (s : State) : Rd Nat := do
  let luma ← aeCbpLuma s 4 0 0
  let term (n : Nb) (c : Nat → Bool) := s.mbTerm n fun i => i.isPcm || (!i.isSkip && c i.cbpChroma)
  let nz : Nat → Bool := fun v => decide (v ≠ 0)
  let two : Nat → Bool := fun v => decide (v = 2)
  if (← engine.decision (77 + term .a nz + 2 * term .b nz)) = 0 then return luma
  if (← engine.decision (81 + term .a two + 2 * term .b two)) = 0 then return luma + 16
  return luma + 32

/-- `ref_idx_lX` of the partition at `(x, y)` (45_cabac_syntax.md R520). -/
def aeRefIdx (s : State) (lx : Nat) (q : Part) : Rd Nat := do
  let cur := (← get).cur
  let x : Int := q.x
  let y : Int := q.y
  let inc := s.blkTerm cur (x - 1) y (refIdxTerm lx) + 2 * s.blkTerm cur x (y - 1) (refIdxTerm lx)
  decRefIdx engine inc.toNat

/-- `mvd_lX` component `c` of a (sub-)partition (45_cabac_syntax.md R521). -/
def aeMvd (s : State) (lx : Nat) (q : Part) (c : Nat) : Rd Int := do
  let cur := (← get).cur
  let x : Int := q.x
  let y : Int := q.y
  let f := fun (i : MbInfo) k => if c = 0 then (i.motion lx k).mvdAbs.x else (i.motion lx k).mvdAbs.y
  decMvd engine c (mvdInc (s.blkTerm cur (x - 1) y f + s.blkTerm cur x (y - 1) f))

/-- The value of `mb_type` in CABAC, by slice type (45_cabac_syntax.md R511-R513). -/
def aeMbType (s : State) : Rd Nat :=
  match s.hdr.sliceType % 5 with
  | 0 => decMbTypeP engine
  | 1 => decMbTypeB engine (s.mbTerms fun i => i.mbType ≠ .bSkip && i.mbType ≠ .b 0)
  | _ => decMbTypeISlice engine (s.mbTerms fun i => i.mbType ≠ .iNxN)

/-- The value of `sub_mb_type` in CABAC (45_cabac_syntax.md R514, R515). -/
def aeSubMbType (s : State) : Rd Nat :=
  if s.hdr.sliceType % 5 = 1 then decSubMbTypeB engine else decSubMbTypeP engine

/-- `transform_size_8x8_flag` in CABAC (45_cabac_syntax.md R516). -/
def aeTransform8x8 (s : State) : Rd Nat := engine.decision (399 + s.mbTerms fun i => i.transform8x8)

/-- `intra_chroma_pred_mode` in CABAC (45_cabac_syntax.md R518). -/
def aeIntraChroma (s : State) : Rd Nat :=
  decIntraChroma engine (s.mbTerms fun i => i.isIntra && !i.isPcm && decide (i.intraChromaMode ≠ 0))

/-- `mb_skip_flag` (45_cabac_syntax.md R510). -/
def aeMbSkipFlag (s : State) : Rd Nat :=
  engine.decision ((if s.hdr.sliceType % 5 = 1 then 24 else 11) + s.mbTerms fun i => !i.skipFlag)

/-- `mb_qp_delta` in CABAC (45_cabac_syntax.md R522). -/
def aeQpDelta (s : State) : Rd Int := decQpDelta engine s.ds.prevMbQpDeltaNonZero.toNat

/-! ## Elements in both modes -/

/-- `transform_size_8x8_flag`. -/
def readTransform8x8 (s : State) : Rd Unit := do
  let b ← if s.hdr.pps.cabac then aeTransform8x8 s else readBits 1
  modMb fun m => { m with transform8x8 := decide (b = 1) }
  modCur fun c => { c with transform8x8 := decide (b = 1) }

/-- `prev_intra*_pred_mode_flag[k]` and `rem_intra*_pred_mode[k]` (44_mb_syntax.md R431). -/
def readIntraMode (s : State) (k : Nat) : Rd Unit := do
  let prev ← if s.hdr.pps.cabac then engine.decision 68 else readBits 1
  let rem ← if prev = 1 then pure 0 else if s.hdr.pps.cabac then decRemIntra engine else readBits 3
  modMb fun m => { m with prevIntraFlag := m.prevIntraFlag.set k (decide (prev = 1)),
                          remIntraMode := m.remIntraMode.set k rem }

/-- `intra_chroma_pred_mode`, 0..3. -/
def readIntraChroma (s : State) : Rd Unit := do
  let v ← if s.hdr.pps.cabac then aeIntraChroma s else readUe
  require (decide (v ≤ 3))
  modMb fun m => { m with intraChromaMode := v }
  modCur fun c => { c with intraChromaMode := v }

/-- `num_ref_idx_lX_active_minus1`. -/
def SliceHdr.numRefMinus1 (h : SliceHdr) (x : Nat) : Nat := if x = 0 then h.numRefIdx0Minus1 else h.numRefIdx1Minus1

/-- `RefPicListX`. -/
def SliceHdr.refList (h : SliceHdr) (x : Nat) : List (Option Nat) := if x = 0 then h.list0 else h.list1

/-- `RefPicListX[i]`; `NoRef` past the end. -/
def SliceHdr.refAt (h : SliceHdr) (x i : Nat) : Option Nat := (h.refList x).getD i none

/-- Whether a partition uses list `x`. -/
def Part.uses (q : Part) (x : Nat) : Bool := if x = 0 then q.use0 else q.use1

/-- `ref_idx_lX[p]` of a partition that uses list `x` (44_mb_syntax.md R431, R432, R433, R447). -/
def readRefIdx (s : State) (x : Nat) (q : Part) : Rd Unit := do
  let max := s.hdr.numRefMinus1 x
  let t := (← get).mb.mbType
  let v ← if max = 0 ∨ t = .p 4 then pure 0
    else if s.hdr.pps.cabac then aeRefIdx s x q else readTe max
  require (decide (v ≤ max))
  if ¬(max = 0 ∨ t = .p 4) then require (s.hdr.refAt x v).isSome
  modMb fun m => if x = 0 then { m with refIdx0 := m.refIdx0.set q.p v } else { m with refIdx1 := m.refIdx1.set q.p v }
  modCur fun c => c.setMotion x q.blocks fun b => { b with refIdx := v }

/-- `mvd_lX[p][s]`, both components (44_mb_syntax.md R431-R433). -/
def readMvd (s : State) (x : Nat) (q : Part) : Rd Unit := do
  let dx ← if s.hdr.pps.cabac then aeMvd s x q 0 else readSe
  require (in16 dx)
  let dy ← if s.hdr.pps.cabac then aeMvd s x q 1 else readSe
  require (in16 dy)
  let set (l : List (List Mv)) : List (List Mv) := l.modify q.p fun r => r.set q.s ⟨dx, dy⟩
  modMb fun m => if x = 0 then { m with mvd0 := set m.mvd0 } else { m with mvd1 := set m.mvd1 }
  modCur fun c => c.setMotion x q.blocks fun b => { b with mvdAbs := ⟨iabs dx, iabs dy⟩ }

/-- The partitions whose reference index is coded: macroblock partitions, and 8x8 blocks with sub-partitions (44_mb_syntax.md R431, R432). -/
def refParts (t : MbType) (subs : List SubType) : List Part :=
  if t.numParts = 4 then
    (List.range 4).map fun p =>
      let m := (subs.getD p (.p 0)).mode
      ⟨p, 0, 8 * (p % 2), 8 * (p / 2), 8, 8, 0, false, false, m.uses0, m.uses1⟩
  else partsOf t subs

/-- Run a reader for each partition that uses list `x`. -/
def forParts (qs : List Part) (x : Nat) (f : Part → Rd Unit) : Rd Unit := do
  for q in qs do
    if q.uses x then f q

/-- The motion elements of an inter macroblock: all `ref_idx_l0`, `ref_idx_l1`, `mvd_l0`, `mvd_l1` (44_mb_syntax.md R431, R432). -/
def readMotion (s : State) : Rd Unit := do
  let m := (← get).mb
  let rp := refParts m.mbType m.subTypes
  let mp := partsOf m.mbType m.subTypes
  forParts rp 0 (readRefIdx s 0)
  forParts rp 1 (readRefIdx s 1)
  forParts mp 0 (readMvd s 0)
  forParts mp 1 (readMvd s 1)

/-- `noSubMbPartSizeLessThan8x8` (44_mb_syntax.md R430). -/
def noSmallSubParts (h : SliceHdr) (t : MbType) (subs : List SubType) : Bool :=
  if t.numParts ≠ 4 then true
  else subs.all fun u => if u.isDirect then h.sps.direct8x8Inference else decide (u.numParts ≤ 1)

/-- `coded_block_pattern` (44_mb_syntax.md R430, R452). -/
def readCbp (s : State) : Rd Unit := do
  let intra := (← get).mb.mbType.isIntra
  let v ← if s.hdr.pps.cabac then aeCbp s else readMe intra
  modMb fun m => { m with cbp := v }
  modCur fun c => { c with cbpLuma := v % 16, cbpChroma := v / 16 }

/-- `mb_qp_delta`. -/
def readQpDelta (s : State) : Rd Unit := do
  let v ← if s.hdr.pps.cabac then aeQpDelta s else readSe
  modMb fun m => { m with mbQpDelta := v }
  modCur fun c => { c with mbQpDelta := v }

/-- `macroblock_layer()` after `mb_type` and the sub-macroblock types, for every type but I_PCM (44_mb_syntax.md R430). -/
def readMbLayer (s : State) : Rd Unit := do
  let h := s.hdr
  let t := (← get).mb.mbType
  if t = .iNxN ∧ h.pps.transform8x8Mode then readTransform8x8 s
  if t.isIntra then
    if t = .iNxN then
      for k in List.range (if (← get).mb.transform8x8 then 4 else 16) do
        readIntraMode s k
    readIntraChroma s
  else readMotion s
  if ¬t.isI16 then
    readCbp s
    let m := (← get).mb
    if m.cbp % 16 > 0 ∧ h.pps.transform8x8Mode ∧ t ≠ .iNxN ∧ noSmallSubParts h t m.subTypes
        ∧ (t ≠ .b 0 ∨ h.sps.direct8x8Inference) then readTransform8x8 s
  let c := (← get).cur
  if c.cbpLuma > 0 ∨ c.cbpChroma > 0 ∨ t.isI16 then
    readQpDelta s
    readResidual s c.cbpLuma c.cbpChroma c.transform8x8

/-- I_PCM: alignment, the samples, and in CABAC the engine's restart (44_mb_syntax.md R430, 45_cabac_syntax.md R503). -/
def readPcm (s : State) : Rd Unit := do
  let _ ← readBits ((8 - (← get).br.cursor % 8) % 8)
  let luma ← readEach 256 fun _ => readBits 8
  let chroma ← readEach 128 fun _ => readBits 8
  modMb fun m => { m with pcmLuma := luma, pcmChroma := chroma }
  if s.hdr.pps.cabac then initEngine

end Sys2Proof.Machine
end

