-- ==== Sys2Proof/Machine/ParamSets.lean ====
section
/-! DEFINITION. Sequence and picture parameter sets: syntax, range checks, derived values and scaling lists (41_parameter_sets.md). -/

namespace Sys2Proof.Machine

/-! ## Scaling lists -/

/-- The elements of `scaling_list` from index `j` on (41_parameter_sets.md R242). -/
def readScalingValues : Nat → Bool → Int → Int → List Nat → Rd ScalingList
  | 0, _, _, _, acc => return .coded acc.reverse
  | left + 1, first, lastScale, nextScale, acc => do
    let next ← if nextScale ≠ 0 then (do
        let delta ← readSeIn (-128) 127
        pure ((lastScale + delta + 256) % 256))
      else pure nextScale
    if first ∧ next = 0 then return .useDefault
    let v := if next = 0 then lastScale else next
    readScalingValues left false v next (v.toNat :: acc)

/-- `scaling_list(list, size)` (R242); a list that takes its default codes no further element. -/
def readScalingList (size : Nat) : Rd ScalingList := readScalingValues size true 8 8 []

/-- The present flags and lists of a parameter set (R241, R252). -/
def readScalingLists (n : Nat) : Rd (List ScalingList) :=
  readEach n fun i => do
    if (← readFlag) then readScalingList (if i < 6 then 16 else 64)
    else return .absent

/-- The list that an absent list `i` falls back to, from those resolved before it; `base` is the list of 0, 3, 6, 7, and lists 8..11 take list `i - 2` (R263). -/
def fallback (base : Nat → List Nat) (done : List (List Nat)) (i : Nat) : List Nat :=
  if i = 0 ∨ i = 3 ∨ i = 6 ∨ i = 7 then base i else done.getD (if i < 6 then i - 1 else i - 2) []

/-- Resolve the lists in increasing order (R264, R265), lists 8..11 of `chroma_format_idc = 3` after the eight that dequantisation uses (R262, R263). -/
def resolveLists (base : Nat → List Nat) (ls : List ScalingList) : List (List Nat) :=
  (List.range 12).foldl
    (fun done i =>
      done ++ [match ls.getD i .absent with
        | .absent => fallback base done i
        | .useDefault => defaultList i
        | .coded v => v]) []

/-- `SeqList[0..7]` (R264), and lists 8..11 after them (R263). -/
def Sps.seqLists (s : Sps) : List (List Nat) :=
  if s.scalingMatrixPresent then resolveLists defaultList s.scalingLists
  else (List.range 12).map flatList

/-- `PicList[0..7]` (R265), and lists 8..11 after them (R263): fall-back rule A without a sequence matrix, B with one. -/
def picLists (s : Sps) (p : Pps) : List (List Nat) :=
  if p.scalingMatrixPresent then
    let seq := s.seqLists
    resolveLists (if s.scalingMatrixPresent then fun i => seq.getD i [] else defaultList) p.scalingLists
  else s.seqLists

/-! ## Derived values (R248, 00_scope.md R12) -/

def Sps.maxFrameNum (s : Sps) : Nat := 2 ^ (s.log2MaxFrameNumMinus4 + 4)

def Sps.maxPocLsb (s : Sps) : Nat := 2 ^ (s.log2MaxPocLsbMinus4 + 4)

def Sps.widthInMbs (s : Sps) : Nat := s.widthInMbsMinus1 + 1

def Sps.heightInMbs (s : Sps) : Nat := s.heightInMapUnitsMinus1 + 1

/-- `PicSizeInMbs = PicSizeInMapUnits`. -/
def Sps.sizeInMbs (s : Sps) : Nat := s.widthInMbs * s.heightInMbs

/-- `InSubset(sps)` (R249). -/
def Sps.inSubset (s : Sps) (p : Params) : Bool :=
  decide (s.chromaFormatIdc = 1) && decide (s.bitDepthLumaMinus8 = 0) && decide (s.bitDepthChromaMinus8 = 0)
    && !s.qpprimeBypass && s.frameMbsOnly && decide (s.widthInMbs ≤ p.maxWidthMbs)
    && decide (s.heightInMbs ≤ p.maxHeightMbs) && decide (s.maxNumRefFrames ≤ p.numFrames - 1)

/-! ## Sequence parameter set -/

/-- The `profile_idc` values with the extended syntax (30_encoding.md R153). -/
def highProfiles : List Nat := [100, 110, 122, 244, 44, 83, 86, 118, 128, 138, 139, 134, 135]

/-- The high-profile elements (R241). -/
def readSpsHigh (s : Sps) : Rd Sps := do
  let chroma ← readUeMax 3
  let sep ← if chroma = 3 then readFlag else pure false
  let bdl ← readUeMax 6
  let bdc ← readUeMax 6
  let bypass ← readFlag
  let present ← readFlag
  let lists ← if present then readScalingLists (if chroma ≠ 3 then 8 else 12) else pure []
  return { s with chromaFormatIdc := chroma, separateColourPlane := sep, bitDepthLumaMinus8 := bdl,
                  bitDepthChromaMinus8 := bdc, qpprimeBypass := bypass, scalingMatrixPresent := present,
                  scalingLists := lists }

/-- The picture-order-count elements (R241). -/
def readSpsPoc (s : Sps) : Rd Sps := do
  let t ← readUeMax 2
  if t = 0 then
    let l ← readUeMax 12
    return { s with pocType := t, log2MaxPocLsbMinus4 := l }
  else if t = 1 then
    let zero ← readFlag
    let nonRef ← readSe
    let topBottom ← readSe
    let n ← readUeMax 255
    let offs ← readEach n fun _ => readSe
    return { s with pocType := t, deltaPicOrderAlwaysZero := zero, offsetForNonRefPic := nonRef,
                    offsetForTopToBottom := topBottom, offsetForRefFrame := offs }
  else return { s with pocType := t }

/-- The SPS syntax (R241) with the checks of R244. -/
def readSps : Rd Sps := do
  let profile ← readBits 8
  let flags ← readBits 6
  let zero2 ← readBits 2
  let level ← readBits 8
  let id ← readUeMax 31
  let s0 : Sps := { Sps.empty with profileIdc := profile, constraintFlags := flags, reservedZero2Bits := zero2,
                                   levelIdc := level, id := id }
  let s1 ← if highProfiles.contains profile then readSpsHigh s0 else pure s0
  let l2 ← readUeMax 12
  let s2 ← readSpsPoc { s1 with log2MaxFrameNumMinus4 := l2 }
  let refs ← readUeMax 16
  let gaps ← readFlag
  let w ← readUe
  let h ← readUe
  let frames ← readFlag
  let mbaff ← if frames then pure false else readFlag
  let d8 ← readFlag
  let cropping ← readFlag
  let crop ← if cropping then (do
      let l ← readUe
      let r ← readUe
      let t ← readUe
      let b ← readUe
      pure (⟨l, r, t, b⟩ : Crop))
    else pure ⟨0, 0, 0, 0⟩
  let vui ← readFlag
  return { s2 with maxNumRefFrames := refs, gapsAllowed := gaps, widthInMbsMinus1 := w,
                   heightInMapUnitsMinus1 := h, frameMbsOnly := frames, mbAdaptiveFrameField := mbaff,
                   direct8x8Inference := d8, frameCropping := cropping, crop := crop, vuiPresent := vui }

/-! ## Picture parameter set -/

/-- The slice-group elements (R252), `n = num_slice_groups_minus1 > 0`. -/
def readSliceGroups (par : Params) (p : Pps) (n : Nat) : Rd Pps := do
  let t ← readUeMax 6
  let p := { p with mapType := t }
  if t = 0 then
    let runs ← readEach (n + 1) fun _ => readUe
    return { p with runLengthMinus1 := runs }
  else if t = 2 then
    let rects ← readEach n fun _ => do
      let tl ← readUe
      let br ← readUe
      require (decide (tl ≤ br))
      pure (tl, br)
    return { p with topLeft := rects.map (·.1), bottomRight := rects.map (·.2) }
  else if t = 3 ∨ t = 4 ∨ t = 5 then
    let dir ← readFlag
    let rate ← readUe
    return { p with changeDirection := dir, changeRateMinus1 := rate }
  else if t = 6 then
    let size ← readUe
    require (decide (size + 1 ≤ par.maxWidthMbs * par.maxHeightMbs)) .unsupported
    let ids ← readEach (size + 1) fun _ => do
      let v ← readBits (ceilLog2 (n + 1))
      require (decide (v ≤ n))
      pure v
    return { p with picSizeInMapUnitsMinus1 := size, sliceGroupId := ids }
  else return p

/-- The three-element extension (R252). -/
def readPpsExtension (chromaFormatIdc : Nat) (p : Pps) : Rd Pps := do
  let t8 ← readFlag
  let present ← readFlag
  let lists ← if present then
      readScalingLists (6 + (if chromaFormatIdc ≠ 3 then 2 else 6) * t8.toNat)
    else pure []
  let second ← readSeIn (-12) 12
  return { p with transform8x8Mode := t8, scalingMatrixPresent := present, scalingLists := lists,
                  secondChromaQpOffset := second }

/-- `chroma_format_idc` of the SPS a PPS names, as stored now (R251). -/
def chromaFormatOf (s : State) (spsId : Nat) : Nat :=
  match s.sps.getD spsId none with
  | some p => p.chromaFormatIdc
  | none => 1

/-- The PPS syntax (R252) with the checks of R254. -/
def readPps (s : State) : Rd Pps := do
  let id ← readUeMax 255
  let spsId ← readUeMax 31
  let cabac ← readFlag
  let bottom ← readFlag
  let groups ← readUeMax 7
  let p0 : Pps := { Pps.empty with id := id, spsId := spsId, cabac := cabac, bottomFieldPicOrder := bottom,
                                   numSliceGroupsMinus1 := groups }
  let p1 ← if groups > 0 then readSliceGroups s.params p0 groups else pure p0
  let n0 ← readUeMax 31
  let n1 ← readUeMax 31
  let wp ← readFlag
  let wb ← readBits 2
  require (decide (wb ≤ 2))
  let qp ← readSeIn (-26) 25
  let qs ← readSeIn (-26) 25
  let off ← readSeIn (-12) 12
  let dbk ← readFlag
  let cip ← readFlag
  let red ← readFlag
  let p2 := { p1 with numRefIdxL0DefaultMinus1 := n0, numRefIdxL1DefaultMinus1 := n1, weightedPred := wp,
                      weightedBipredIdc := wb, picInitQpMinus26 := qp, picInitQsMinus26 := qs,
                      chromaQpOffset := off, secondChromaQpOffset := off, deblockingControlPresent := dbk,
                      constrainedIntraPred := cip, redundantPicCntPresent := red }
  if (← get).br.moreRbspData then readPpsExtension (chromaFormatOf s spsId) p2
  else return p2

/-- The size-dependent checks of a PPS (R254, 42_slice_header.md R302 step 4). -/
def ppsFits (s : Sps) (p : Pps) : Bool :=
  if p.numSliceGroupsMinus1 = 0 then true
  else match p.mapType with
    | 0 => p.runLengthMinus1.all fun r => decide (r < s.sizeInMbs)
    | 2 => p.bottomRight.all fun b => decide (b < s.sizeInMbs)
    | 3 | 4 | 5 => decide (p.changeRateMinus1 < s.sizeInMbs)
    | 6 => decide (p.picSizeInMapUnitsMinus1 + 1 = s.sizeInMbs)
    | _ => true

/-- Store an SPS (R240). -/
def State.storeSps (s : State) (p : Sps) : State := s.setSps (s.sps.set p.id (some p))

/-- Store a PPS (R250). -/
def State.storePps (s : State) (p : Pps) : State := s.setPps (s.pps.set p.id (some p))

end Sys2Proof.Machine
end

