-- ==== Sys2Proof/Machine/SliceHeader.lean ====
section
/-! DEFINITION. The slice header: activation, pass 2, checks and derived values (42_slice_header.md). -/

namespace Sys2Proof.Machine

/-- `IdrPicFlag` (R301). -/
def SliceHdr.idr (h : SliceHdr) : Bool := decide (h.nalType = 5)

/-- `st = slice_type % 5` (R301). -/
def SliceHdr.st (h : SliceHdr) : Nat := h.sliceType % 5

/-- `SliceQPY` (R320). -/
def SliceHdr.sliceQpY (h : SliceHdr) : Int := 26 + h.pps.picInitQpMinus26 + h.sliceQpDelta

/-- `SliceGroupChangeRate` (41_parameter_sets.md R253). -/
def Pps.changeRate (p : Pps) : Nat := p.changeRateMinus1 + 1

/-- `Ceil(PicSizeInMapUnits ÷ SliceGroupChangeRate)` (R307). -/
def SliceHdr.maxChangeCycle (h : SliceHdr) : Nat := (h.sps.sizeInMbs + h.pps.changeRate - 1) / h.pps.changeRate

/-- `MapUnitsInSliceGroup0` (R320). -/
def SliceHdr.mapUnits0 (h : SliceHdr) : Nat := min (h.groupChangeCycle * h.pps.changeRate) h.sps.sizeInMbs

/-- How the list predictions are combined (R320). -/
inductive WeightMode where
  | default | explicit | implicit
  deriving DecidableEq, Repr

def SliceHdr.weightMode (h : SliceHdr) : WeightMode :=
  if h.weightTable then .explicit
  else if h.st = 1 ∧ h.pps.weightedBipredIdc = 2 then .implicit
  else .default

/-- The commands of one list (R304): pairs of code and value, the final 3 not kept; at most `room` commands. The first number bounds the loop by the length of the RBSP. -/
def readMods : Nat → Nat → List (Nat × Nat) → Rd (List (Nat × Nat))
  | 0, _, _ => throw .bits
  | f + 1, room, acc => do
    let idc ← readUeMax 3
    if idc = 3 then return acc.reverse
    require (decide (0 < room))
    let v ← readUe
    readMods f (room - 1) ((idc, v) :: acc)

/-- A bound on the number of codes an RBSP can hold. -/
def rbspFuel : Rd Nat := do return 8 * (← get).br.rbsp.length + 1

/-- The modification commands of both lists (R304). -/
def readRefPicListMods (h : SliceHdr) : Rd SliceHdr := do
  if h.st = 2 ∨ h.st = 4 then return h
  let f0 ← readFlag
  let m0 ← if f0 then readMods (← rbspFuel) (h.numRefIdx0Minus1 + 1) [] else pure []
  let h := { h with modFlag0 := f0, mods0 := m0 }
  if h.st ≠ 1 then return h
  let f1 ← readFlag
  let m1 ← if f1 then readMods (← rbspFuel) (h.numRefIdx1Minus1 + 1) [] else pure []
  return { h with modFlag1 := f1, mods1 := m1 }

/-- A weight and its offset, -128..127 (R305). -/
def readWeight : Rd Weight := do
  let w ← readSeIn (-128) 127
  let o ← readSeIn (-128) 127
  return ⟨w, o⟩

/-- The weights of one reference index (R305). -/
def readRefWeight (ld cd : Nat) : Rd RefWeight := do
  let lumaFlag ← readFlag
  let luma ← if lumaFlag then readWeight else pure ⟨2 ^ ld, 0⟩
  let chromaFlag ← readFlag
  if chromaFlag then
    let cb ← readWeight
    let cr ← readWeight
    return ⟨lumaFlag, chromaFlag, luma, cb, cr⟩
  return ⟨lumaFlag, chromaFlag, luma, ⟨2 ^ cd, 0⟩, ⟨2 ^ cd, 0⟩⟩

/-- `pred_weight_table()` (R305). -/
def readPredWeightTable (h : SliceHdr) : Rd SliceHdr := do
  let ld ← readUeMax 7
  let cd ← readUeMax 7
  let w0 ← readEach (h.numRefIdx0Minus1 + 1) fun _ => readRefWeight ld cd
  let w1 ← if h.st = 1 then readEach (h.numRefIdx1Minus1 + 1) (fun _ => readRefWeight ld cd) else pure []
  return { h with weightTable := true, lumaLog2Denom := ld, chromaLog2Denom := cd, weights0 := w0, weights1 := w1 }

/-- The marking operations in order (R306), the final 0 not kept. -/
def readMmcos : Nat → List Mmco → Rd (List Mmco)
  | 0, _ => throw .bits
  | f + 1, acc => do
    let op ← readUeMax 6
    if op = 0 then return acc.reverse
    let a ← if op = 5 then pure 0 else readUe
    let b ← if op = 3 then readUe else pure 0
    readMmcos f (⟨op, a, b⟩ :: acc)

/-- `dec_ref_pic_marking()` (R306). -/
def readMarking (h : SliceHdr) : Rd SliceHdr := do
  if h.idr then
    let a ← readFlag
    let b ← readFlag
    return { h with noOutputOfPriorPics := a, longTermReference := b }
  let a ← readFlag
  let ops ← if a then readMmcos (← rbspFuel) [] else pure []
  return { h with adaptiveMarking := a, mmcos := ops }

/-- The picture-order-count elements (R301). -/
def readHdrPoc (h : SliceHdr) : Rd SliceHdr := do
  let bottom := h.pps.bottomFieldPicOrder
  match h.sps.pocType with
  | 0 =>
    let lsb ← readBits (h.sps.log2MaxPocLsbMinus4 + 4)
    let d ← if bottom then readSe else pure 0
    return { h with pocLsb := lsb, deltaPocBottom := d }
  | 1 =>
    if h.sps.deltaPicOrderAlwaysZero then return h
    let d0 ← readSe
    let d1 ← if bottom then readSe else pure 0
    return { h with deltaPoc0 := d0, deltaPoc1 := d1 }
  | _ => return h

/-- The active reference counts, coded or inferred, each 0..15 (R301, R307, R309). Without the override flag both are inferred in every slice type; in a P or SP slice with it list 1 has none, and the PPS's number is kept (log entry 15). -/
def readNumRefIdx (h : SliceHdr) : Rd SliceHdr := do
  let d0 := h.pps.numRefIdxL0DefaultMinus1
  let d1 := h.pps.numRefIdxL1DefaultMinus1
  let override ← if h.st = 2 ∨ h.st = 4 then pure false else readFlag
  if override then
    let n0 ← readUeMax 15
    let n1 ← if h.st = 1 then readUeMax 15 else pure d1
    return { h with numRefIdxOverride := true, numRefIdx0Minus1 := n0, numRefIdx1Minus1 := n1 }
  else
    require (decide (d0 ≤ 15) && decide (d1 ≤ 15))
    return { h with numRefIdxOverride := false, numRefIdx0Minus1 := d0, numRefIdx1Minus1 := d1 }

/-- The deblocking elements (R301, R307). -/
def readDeblocking (h : SliceHdr) : Rd SliceHdr := do
  if ¬h.pps.deblockingControlPresent then return h
  let idc ← readUeMax 2
  if idc = 1 then return { h with disableDeblockingIdc := idc }
  let a ← readSeIn (-6) 6
  let b ← readSeIn (-6) 6
  return { h with disableDeblockingIdc := idc, alphaOffsetDiv2 := a, betaOffsetDiv2 := b }

/-- `slice_group_change_cycle` (R301, R307): `Ceil(Log2(PicSizeInMapUnits ÷ SliceGroupChangeRate + 1))` bits. -/
def readChangeCycle (h : SliceHdr) : Rd SliceHdr := do
  let p := h.pps
  if p.numSliceGroupsMinus1 > 0 ∧ (p.mapType = 3 ∨ p.mapType = 4 ∨ p.mapType = 5) then
    let v ← readBits (ceilLog2 (h.maxChangeCycle + 1))
    require (decide (v ≤ h.maxChangeCycle))
    return { h with groupChangeCycle := v }
  else return h

/-- Pass 2 (R300, R301), with the range checks of R307 as each element is read. -/
def readHeader2 (h : SliceHdr) : Rd SliceHdr := do
  let fn ← readBits (h.sps.log2MaxFrameNumMinus4 + 4)
  let idr ← if h.idr then readUeMax 65535 else pure 0
  let h ← readHdrPoc { h with frameNum := fn, idrPicId := idr }
  let red ← if h.pps.redundantPicCntPresent then readUeMax 127 else pure 0
  let spatial ← if h.st = 1 then readFlag else pure false
  let h ← readNumRefIdx { h with redundantPicCnt := red, directSpatial := spatial }
  let h ← readRefPicListMods h
  let h ← if (h.pps.weightedPred ∧ (h.st = 0 ∨ h.st = 3)) ∨ (h.pps.weightedBipredIdc = 1 ∧ h.st = 1) then
      readPredWeightTable h
    else pure h
  let h ← if h.nalRefIdc ≠ 0 then readMarking h else pure h
  let cab ← if h.pps.cabac ∧ h.st ≠ 2 ∧ h.st ≠ 4 then readUeMax 2 else pure 0
  let qd ← readSe
  let h := { h with cabacInitIdc := cab, sliceQpDelta := qd }
  require (decide (0 ≤ h.sliceQpY) && decide (h.sliceQpY ≤ 51))
  let sw ← if h.st = 3 then readFlag else pure false
  let qs ← if h.st = 3 ∨ h.st = 4 then readSe else pure 0
  let h ← readDeblocking { h with spForSwitch := sw, sliceQsDelta := qs }
  readChangeCycle h

/-- The activation between the passes (R302), in its order: the slice's parameter sets, or the first failing check. -/
def activate (s : State) (h : SliceHdr) : Except ErrCode SliceHdr :=
  if h.sliceType > 9 then .error .invalid
  else if h.ppsId > 255 then .error .invalid
  else match s.pps.getD h.ppsId none with
    | none => .error .psMissing
    | some p =>
      match s.sps.getD p.spsId none with
      | none => .error .psMissing
      | some q =>
        let dims : Bool :=
          match s.au.curFrame with
          | none => true
          | some f => decide ((s.frame f).w = 16 * q.widthInMbs) && decide ((s.frame f).h = 16 * q.heightInMbs)
        if !q.inSubset s.params then .error .unsupported
        else if !ppsFits q p then .error .invalid
        else if h.firstMb ≥ q.sizeInMbs then .error .invalid
        else if h.idr ∧ h.st ≠ 2 ∧ h.st ≠ 4 then .error .invalid
        else if !dims then .error .invalid
        else .ok { h with pps := p, sps := q }

/-- The header after `slice_type`: `pic_parameter_set_id`, activation, pass 2 (R300-R307). -/
def readHeader (s : State) (h : SliceHdr) : Rd SliceHdr := do
  let id ← readUe
  match activate s { h with ppsId := id } with
  | .error e => throw e
  | .ok h => readHeader2 h

end Sys2Proof.Machine
end

