-- ==== Sys2Proof/Machine/SliceGroups.lean ====
section
/-! DEFINITION. Macroblock-to-slice-group maps and the next macroblock address (43_slice_fsm.md R366-R368): the operations SGMAP. -/

namespace Sys2Proof.Machine

/-- The picture's map-unit geometry and the group parameters (R366). -/
structure MapArgs where
  n : Nat
  wm : Nat
  hm : Nat
  u0 : Nat
  dir : Nat
  pps : Pps
  deriving DecidableEq, Repr

def MapArgs.size (a : MapArgs) : Nat := a.wm * a.hm

/-- The arguments that a slice header gives. -/
def SliceHdr.mapArgs (h : SliceHdr) : MapArgs :=
  ⟨h.pps.numSliceGroupsMinus1 + 1, h.sps.widthInMbs, h.sps.heightInMbs, h.mapUnits0, h.pps.changeDirection.toNat, h.pps⟩

/-- Type 0 (R366): the runs of the groups in turn until the map is full; each run is at least 1, so `fuel` is at most the map's size. -/
def interleavedRuns (a : MapArgs) : Nat → Nat → List Nat → List Nat
  | 0, _, acc => acc
  | f + 1, g, acc =>
    if acc.length ≥ a.size then acc
    else
      let run := min (a.pps.runLengthMinus1.getD g 0 + 1) (a.size - acc.length)
      interleavedRuns a f ((g + 1) % a.n) (acc ++ List.replicate run g)

def mapInterleaved (a : MapArgs) : List Nat := interleavedRuns a a.size 0 []

/-- Type 1 (R366). -/
def mapDispersed (a : MapArgs) : List Nat :=
  (List.range a.size).map fun i => (i % a.wm + i / a.wm * a.n / 2) % a.n

/-- Type 2 (R366): the lowest group whose rectangle holds the map unit, else the last group. -/
def mapForeground (a : MapArgs) : List Nat :=
  (List.range a.size).map fun i =>
    let inRect (g : Nat) : Bool :=
      let tl := a.pps.topLeft.getD g 0
      let br := a.pps.bottomRight.getD g 0
      decide (tl / a.wm ≤ i / a.wm) && decide (i / a.wm ≤ br / a.wm)
        && decide (tl % a.wm ≤ i % a.wm) && decide (i % a.wm ≤ br % a.wm)
    ((List.range (a.n - 1)).find? inRect).getD (a.n - 1)

/-- The state of the box-out walk (R368). -/
structure BoxOut where
  map : List Nat
  x : Int
  y : Int
  left : Int
  top : Int
  right : Int
  bottom : Int
  xDir : Int
  yDir : Int
  k : Nat
  deriving DecidableEq, Repr

/-- The unit of the walk's place is taken, and counted, if it is vacant (R368). -/
def BoxOut.take (a : MapArgs) (b : BoxOut) : BoxOut :=
  let i := (b.y * a.wm + b.x).toNat
  if b.map.getD i 0 = 1 then { b with map := b.map.set i 0, k := b.k + 1 } else b

/-- The walk goes on along the side of the box; at its end the box grows, inside the picture, and the walk turns (R368). -/
def BoxOut.move (a : MapArgs) (b : BoxOut) : BoxOut :=
  let d : Int := a.dir
  if b.xDir = -1 ∧ b.x = b.left then
    let l := max (b.left - 1) 0
    { b with left := l, x := l, xDir := 0, yDir := 2 * d - 1 }
  else if b.xDir = 1 ∧ b.x = b.right then
    let r := min (b.right + 1) (a.wm - 1)
    { b with right := r, x := r, xDir := 0, yDir := 1 - 2 * d }
  else if b.yDir = -1 ∧ b.y = b.top then
    let t := max (b.top - 1) 0
    { b with top := t, y := t, xDir := 1 - 2 * d, yDir := 0 }
  else if b.yDir = 1 ∧ b.y = b.bottom then
    let t := min (b.bottom + 1) (a.hm - 1)
    { b with bottom := t, y := t, xDir := 2 * d - 1, yDir := 0 }
  else { b with x := b.x + b.xDir, y := b.y + b.yDir }

/-- One turn of the box-out walk (R368). -/
def BoxOut.turn (a : MapArgs) (b : BoxOut) : BoxOut := (b.take a).move a

/-- The walk until `U0` units are taken (R368); `fuel` bounds its length. -/
def BoxOut.walk (a : MapArgs) : Nat → BoxOut → BoxOut
  | 0, b => b
  | f + 1, b => if b.k < a.u0 then BoxOut.walk a f (b.turn a) else b

/-- Type 3 (R366, R368). A ring of the spiral is at most `2(W + H)` turns and there are at most `W + H` rings. -/
def mapBoxOut (a : MapArgs) : List Nat :=
  let x : Int := ((a.wm - a.dir) / 2 : Nat)
  let y : Int := ((a.hm - a.dir) / 2 : Nat)
  let start : BoxOut := ⟨List.replicate a.size 1, x, y, x, y, x, y, a.dir - 1, a.dir, 0⟩
  (BoxOut.walk a (4 * (a.wm + a.hm + 1) * (a.wm + a.hm + 1) + 16) start).map

/-- `sizeUL` of types 4 and 5 (R366). -/
def MapArgs.sizeUl (a : MapArgs) : Nat := if a.dir = 1 then a.size - a.u0 else a.u0

/-- Type 4 (R366). -/
def mapRaster (a : MapArgs) : List Nat :=
  (List.range a.size).map fun i => if i < a.sizeUl then a.dir else 1 - a.dir

/-- Type 5 (R366): unit `(j, i)` is the `(j * Hm + i)`-th of the column-wise count. -/
def mapWipe (a : MapArgs) : List Nat :=
  (List.range a.size).map fun i => if i % a.wm * a.hm + i / a.wm < a.sizeUl then a.dir else 1 - a.dir

/-- Type 6 (R366). -/
def mapExplicit (a : MapArgs) : List Nat := (List.range a.size).map fun i => a.pps.sliceGroupId.getD i 0

/-- Set the map of the current picture. -/
def State.setMap (s : State) (m : List Nat) : State := s.setAu { s.au with map := m }

/-- Build the map with one of the seven processes from the slice in progress (R366). -/
def State.buildMap (s : State) (f : MapArgs → List Nat) : State := s.setMap (f s.hdr.mapArgs)

/-- `NextMbAddress(n)` (R367). -/
def nextMbAddress (map : List Nat) (size n : Nat) : Option Nat :=
  (List.range size).find? fun i => decide (n < i) && decide (map.getD i 0 = map.getD n 0)

/-! ## The operations -/

def execSgmap0Interleaved (s : State) : Host.Outcome State Fault Refusal := .next (s.buildMap mapInterleaved)
def execSgmap1Dispersed (s : State) : Host.Outcome State Fault Refusal := .next (s.buildMap mapDispersed)
def execSgmap2Foreground (s : State) : Host.Outcome State Fault Refusal := .next (s.buildMap mapForeground)
def execSgmap3BoxOut (s : State) : Host.Outcome State Fault Refusal := .next (s.buildMap mapBoxOut)
def execSgmap4Raster (s : State) : Host.Outcome State Fault Refusal := .next (s.buildMap mapRaster)
def execSgmap5Wipe (s : State) : Host.Outcome State Fault Refusal := .next (s.buildMap mapWipe)
def execSgmap6Explicit (s : State) : Host.Outcome State Fault Refusal := .next (s.buildMap mapExplicit)

end Sys2Proof.Machine
end

