-- ==== Sys2Proof/Machine/Poc.lean ====
section
/-! DEFINITION. Picture order count (49_reflist.md R750-R756): the operations POC_TYPE0..2 and the POC history. -/

namespace Sys2Proof.Machine

/-- A picture's order counts: top, bottom, `PicOrderCntMsb`, `FrameNumOffset`. -/
structure Poc where
  top : Int
  bottom : Int
  msb : Int
  frameNumOffset : Int
  deriving DecidableEq, Repr

/-- `FrameNumOffset` (R752, R753). -/
def frameNumOffset (au : Au) (h : SliceHdr) : Int :=
  if h.idr then 0
  else if au.prevFrameNum > h.frameNum then au.prevFrameNumOffset + h.sps.maxFrameNum
  else au.prevFrameNumOffset

/-- POC type 0 (R751). -/
def pocType0 (au : Au) (h : SliceHdr) : Poc :=
  let prevMsb := if h.idr then 0 else au.prevPocMsb
  let prevLsb := if h.idr then 0 else au.prevPocLsb
  let lsb : Int := h.pocLsb
  let maxLsb : Int := h.sps.maxPocLsb
  let msb :=
    if lsb < prevLsb ∧ prevLsb - lsb ≥ maxLsb / 2 then prevMsb + maxLsb
    else if lsb > prevLsb ∧ lsb - prevLsb > maxLsb / 2 then prevMsb - maxLsb
    else prevMsb
  ⟨msb + lsb, msb + lsb + h.deltaPocBottom, msb, frameNumOffset au h⟩

/-- POC type 1 (R752). -/
def pocType1 (au : Au) (h : SliceHdr) : Poc :=
  let n : Int := h.sps.offsetForRefFrame.length
  let fno := frameNumOffset au h
  let abs0 : Int := if n ≠ 0 then fno + h.frameNum else 0
  let abs := if h.nalRefIdc = 0 ∧ abs0 > 0 then abs0 - 1 else abs0
  let expected0 : Int :=
    if abs > 0 then
      let cycle := (abs - 1) / n
      let inCycle := ((abs - 1) % n).toNat
      cycle * sumTo h.sps.offsetForRefFrame.length (at0 h.sps.offsetForRefFrame)
        + sumTo (inCycle + 1) (at0 h.sps.offsetForRefFrame)
    else 0
  let expected := if h.nalRefIdc = 0 then expected0 + h.sps.offsetForNonRefPic else expected0
  let top := expected + h.deltaPoc0
  ⟨top, top + h.sps.offsetForTopToBottom + h.deltaPoc1, 0, fno⟩

/-- POC type 2 (R753). -/
def pocType2 (au : Au) (h : SliceHdr) : Poc :=
  let fno := frameNumOffset au h
  let t : Int :=
    if h.idr then 0
    else if h.nalRefIdc = 0 then 2 * (fno + h.frameNum) - 1
    else 2 * (fno + h.frameNum)
  ⟨t, t, 0, fno⟩

/-- The POC of a picture by its SPS's type. -/
def pocOf (au : Au) (h : SliceHdr) : Poc :=
  match h.sps.pocType with
  | 0 => pocType0 au h
  | 1 => pocType1 au h
  | _ => pocType2 au h

/-- A value is a signed 32-bit number (R755). -/
def in32 (v : Int) : Bool := decide (-2147483648 ≤ v) && decide (v ≤ 2147483647)

/-- Keep the POC of the picture being allocated; out of range the slice raises `E_INVALID` before the frame is taken (R755), with the pools as they were before an IDR picture emptied them (60_exceptions.md R823). -/
def State.computePoc (s : State) (f : Au → SliceHdr → Poc) : State :=
  let p := f s.au s.hdr
  let t := s.setWk { s.wk with topPoc := p.top, bottomPoc := p.bottom, pocMsb := p.msb,
                               frameNumOffset := p.frameNumOffset }
  if in32 p.top && in32 p.bottom then t else t.restorePools.raise .invalid

/-- The POC history at a successful `AU_END` (R750), after marking: `h` is the first slice, `f` the picture's frame. The msb and lsb of types 1 and 2 are written and never read: free values. 10_state.md R47 gives the fields 32 bits and no rule bounds what is written, FrameNumOffset above all: that they keep the exact integer is the model's choice (log entry 41). -/
def pocHistory (freeMsb freeLsb : Int) (au : Au) (h : SliceHdr) (f : Frame) : Au :=
  let p := pocOf au h
  let au1 :=
    if h.nalRefIdc ≠ 0 then
      let a := { au with prevRefHadMmco5 := f.hadMmco5 }
      if f.hadMmco5 then { a with prevPocMsb := 0, prevPocLsb := f.topPoc }
      else { a with prevPocMsb := if h.sps.pocType = 0 then p.msb else freeMsb,
                    prevPocLsb := if h.sps.pocType = 0 then (h.pocLsb : Int) else freeLsb }
    else au
  { au1 with prevFrameNumOffset := if f.hadMmco5 then 0 else p.frameNumOffset,
             prevFrameNum := if f.hadMmco5 then 0 else (h.frameNum : Int) }

/-! ## The operations -/

def execPocType0 (s : State) : Host.Outcome State Fault Refusal := .next (s.computePoc pocType0)
def execPocType1 (s : State) : Host.Outcome State Fault Refusal := .next (s.computePoc pocType1)
def execPocType2 (s : State) : Host.Outcome State Fault Refusal := .next (s.computePoc pocType2)

end Sys2Proof.Machine
end

