-- ==== Sys2Proof/Machine/RefList.lean ====
section
/-! DEFINITION. Picture numbers, reference list initialisation and modification (49_reflist.md R760, R761, R785-R799): the operations RPLM. -/

namespace Sys2Proof.Machine

/-- `PicNum(f)` of a short-term frame (R760). -/
def picNum (maxFrameNum frameNum : Nat) (f : Frame) : Int :=
  if f.frameNum > frameNum then (f.frameNum : Int) - maxFrameNum else f.frameNum

/-- The handles of frames with a mark, ascending (R761). -/
def handlesWith (fs : List Frame) (m : Mark) : List Nat :=
  (List.range fs.length).filter fun h => decide ((fs.getD h Frame.free).mark = m)

/-- Insert by key, after the entries whose key is not greater. -/
def insertBy (key : Nat → Int) (h : Nat) : List Nat → List Nat
  | [] => [h]
  | g :: r => if key h < key g then h :: g :: r else g :: insertBy key h r

/-- Sort handles by ascending key; equal keys stay in ascending handle order (R786). -/
def sortBy (key : Nat → Int) (hs : List Nat) : List Nat := hs.foldl (fun acc h => insertBy key h acc) []

/-- The initial lists before truncation (R787-R791). -/
def initLists (fs : List Frame) (h : SliceHdr) (curPoc : Int) : List Nat × List Nat :=
  let fr (i : Nat) := fs.getD i Frame.free
  let short := handlesWith fs .shortTerm
  let long := sortBy (fun i => (fr i).longTermFrameIdx) (handlesWith fs .longTerm)
  if h.st = 1 then
    let before := sortBy (fun i => -(fr i).poc) (short.filter fun i => decide ((fr i).poc ≤ curPoc))
    let after := sortBy (fun i => (fr i).poc) (short.filter fun i => decide ((fr i).poc > curPoc))
    let l0 := before ++ after ++ long
    let l1 := after ++ before ++ long
    let l1' :=
      match l1 with
      | a :: b :: r => if l1 = l0 then b :: a :: r else l1
      | _ => l1
    (l0, l1')
  else
    (sortBy (fun i => -(picNum h.sps.maxFrameNum h.frameNum (fr i))) short ++ long, [])

/-- Truncate or pad with `NoRef` to `n` entries (R792). -/
def fitList (n : Nat) (l : List Nat) : List (Option Nat) :=
  (List.range n).map fun i => l[i]?

/-- The lists of a slice before modification (R785, R792). -/
def buildLists (fs : List Frame) (h : SliceHdr) (curPoc : Int) : SliceHdr :=
  let (l0, l1) := initLists fs h curPoc
  if h.st = 2 ∨ h.st = 4 then { h with list0 := [], list1 := [] }
  else if h.st = 1 then
    { h with list0 := fitList (h.numRefIdx0Minus1 + 1) l0, list1 := fitList (h.numRefIdx1Minus1 + 1) l1 }
  else { h with list0 := fitList (h.numRefIdx0Minus1 + 1) l0, list1 := [] }

/-- `PicOrderCnt(AU.curFrame)` (R756). -/
def State.curPoc (s : State) : Int :=
  match s.au.curFrame with
  | some f => (s.frame f).poc
  | none => 0

/-- Build the initial lists of the slice in progress. -/
def State.initRefLists (s : State) : State := s.setSl (s.sl.map fun h => buildLists s.fs h s.curPoc)

/-- Start the modification of list `x` (R795): the list one entry longer, `refIdx` 0, `picNumPred = CurrPicNum`. -/
def State.rplmStart (s : State) (x : Nat) : State :=
  let h := s.hdr
  s.setWk { s.wk with rplmX := x, rplmList := h.refList x ++ [none], rplmIdx := 0, picNumPred := h.frameNum,
                      rplmLeft := if x = 0 then h.mods0 else h.mods1 }

/-- Put `t` at position `idx`, shift the entries from there on down by one, and close the gaps that its later copies, found by `same`, leave (the two loops of R795). -/
def moveTo (l : List (Option Nat)) (idx : Nat) (t : Nat) (same : Nat → Bool) : List (Option Nat) :=
  let shifted := (l.drop idx).take (l.length - 1 - idx)
  let kept := shifted.filter fun e => match e with
    | none => true
    | some f => !same f
  l.take idx ++ some t :: (kept ++ shifted.drop kept.length)

/-- The short-term frame with a picture number; the lowest handle when several have it. -/
def State.shortWithPicNum (s : State) (frameNum : Nat) (maxFrameNum : Nat) (n : Int) : Option Nat :=
  (handlesWith s.fs .shortTerm).find? fun f => decide (picNum maxFrameNum frameNum (s.frame f) = n)

/-- The long-term frame with a long-term picture number. -/
def State.longWithNum (s : State) (n : Nat) : Option Nat :=
  (handlesWith s.fs .longTerm).find? fun f => decide ((s.frame f).longTermFrameIdx = n)

/-- Move a frame to the next position, or raise `E_INVALID` when there is none (R795, R799). -/
def State.rplmMove (s : State) (t : Option Nat) (same : Nat → Bool) : State :=
  match t with
  | none => s.raise .invalid
  | some f => s.setWk { s.wk with rplmList := moveTo s.wk.rplmList s.wk.rplmIdx f same, rplmIdx := s.wk.rplmIdx + 1 }

/-- A short-term modification by a signed difference (R795, idc 0 and 1). -/
def State.rplmShort (s : State) (v : Nat) (sub : Bool) : State :=
  let h := s.hdr
  let maxPicNum : Int := h.sps.maxFrameNum
  if (v : Int) + 1 > maxPicNum then s.raise .invalid
  else
    let p := s.wk.picNumPred
    let noWrap :=
      if sub then (if p - (v + 1) < 0 then p - (v + 1) + maxPicNum else p - (v + 1))
      else (if p + (v + 1) ≥ maxPicNum then p + (v + 1) - maxPicNum else p + (v + 1))
    let n := if noWrap > h.frameNum then noWrap - maxPicNum else noWrap
    let s' := s.setWk { s.wk with picNumPred := noWrap }
    s'.rplmMove (s'.shortWithPicNum h.frameNum h.sps.maxFrameNum n) fun f =>
      decide ((s.frame f).mark = .shortTerm) && decide (picNum h.sps.maxFrameNum h.frameNum (s.frame f) = n)

/-- A long-term modification (R795, idc 2): a frame that is not long-term has the key `2 * (MaxLongTermFrameIdx + 1)`. -/
def State.rplmLong (s : State) (v : Nat) : State :=
  let key (f : Nat) : Nat :=
    if (s.frame f).mark = .longTerm then (s.frame f).longTermFrameIdx
    else match s.maxLongTermFrameIdx with
      | none => 0
      | some m => 2 * (m + 1)
  s.rplmMove (s.longWithNum v) fun f => decide (key f = v)

/-- The end of the commands: the list is cut to its length and becomes the slice's (R795). -/
def State.rplmEnd (s : State) : State :=
  let l := s.wk.rplmList.take (s.wk.rplmList.length - 1)
  s.setSl (s.sl.map fun h => if s.wk.rplmX = 0 then { h with list0 := l } else { h with list1 := l })

/-! ## The operations: each command but the end is followed by the next of its list -/

def execRplmSub (v : Nat) (s : State) : Host.Outcome State Fault Refusal := .next ((s.push [.fetch .rplm]).rplmShort v true)
def execRplmAdd (v : Nat) (s : State) : Host.Outcome State Fault Refusal := .next ((s.push [.fetch .rplm]).rplmShort v false)
def execRplmLong (v : Nat) (s : State) : Host.Outcome State Fault Refusal := .next ((s.push [.fetch .rplm]).rplmLong v)
def execRplmEnd (s : State) : Host.Outcome State Fault Refusal := .next s.rplmEnd

end Sys2Proof.Machine
end

