-- ==== Sys2Proof/Machine/Marking.lean ====
section
/-! DEFINITION. Decoded reference picture marking (49_reflist.md R770-R782): the operations MMCO and the sliding window. -/

namespace Sys2Proof.Machine

/-- Unmark a frame, and free it when it is neither held nor the current one (R782). -/
def State.unmark (s : State) (h : Nat) : State :=
  s.updFrame h fun f =>
    { f with mark := .unused, inUse := if !f.held && decide (s.au.curFrame ≠ some h) then false else f.inUse }

/-- Unmark several frames. -/
def State.unmarkAll (s : State) (hs : List Nat) : State := hs.foldl State.unmark s

/-- The handles of the reference set (R761). -/
def State.marked (s : State) : List Nat :=
  (List.range s.fs.length).filter fun h => decide ((s.frame h).mark ≠ .unused)

/-- R771 step 1: the pools are emptied for an IDR picture; what they were is kept (log entry 19). -/
def State.emptyPools (s : State) : State :=
  ((s.setSavedPools (some ⟨s.fs.map (·.mark), s.maxLongTermFrameIdx⟩)).unmarkAll s.marked).setMaxLong none

/-- The header that marking works with (R770). -/
def State.first (s : State) : SliceHdr := s.au.firstSlice.getD SliceHdr.empty

/-- The current frame's handle. -/
def State.cur (s : State) : Nat := s.au.curFrame.getD 0

/-- `FrameNumWrap` at the `AU_END` (R760). -/
def State.frameNumWrap (s : State) (h : Nat) : Int :=
  picNum s.first.sps.maxFrameNum s.first.frameNum (s.frame h)

/-- The short-term frame other than the current one with the smallest `FrameNumWrap`. -/
def State.oldestShort (s : State) : Option Nat :=
  (sortBy s.frameNumWrap ((handlesWith s.fs .shortTerm).filter fun h => decide (s.au.curFrame ≠ some h))).head?

/-- The bound on the pools. -/
def State.maxRefs (s : State) : Nat := max s.first.sps.maxNumRefFrames 1

/-- The sliding window (R772): at most one frame leaves per turn. -/
def State.slidingWindow : Nat → State → State
  | 0, s => s
  | f + 1, s =>
    if s.marked.length ≥ s.maxRefs then
      match s.oldestShort with
      | some h => State.slidingWindow f (s.unmark h)
      | none => s
    else s

/-- The pool bound after marking (R780), without its recording. -/
def State.shrinkPools : Nat → State → State
  | 0, s => s
  | f + 1, s =>
    if s.marked.length > s.maxRefs then
      match s.oldestShort with
      | some h => State.shrinkPools f (s.unmark h)
      | none => s
    else s

/-- A marking error (R779): `E_MARK` is recorded at bit position 0 (60_exceptions.md R813) and the operation is skipped. -/
def State.markError (s : State) : State := s.recordAt .mark 0

/-- R780. -/
def State.boundPools (s : State) : State :=
  if s.marked.length > s.maxRefs then (State.shrinkPools s.fs.length s).markError else s

/-- Change the current frame. -/
def State.updCur (s : State) (f : Frame → Frame) : State := s.updFrame s.cur f

/-- R778. 10_state.md R45 gives the POC fields 32 bits and R755 checks them at the allocation only: that a difference past them is kept as the exact integer is the model's choice (log entry 46). -/
def State.mmco5Finish (s : State) : State :=
  s.updCur fun f =>
    if f.hadMmco5 then
      { f with topPoc := f.topPoc - min f.topPoc f.bottomPoc, bottomPoc := f.bottomPoc - min f.topPoc f.bottomPoc,
               poc := 0, frameNum := 0 }
    else f

/-- The end of marking a non-IDR reference picture (R781). -/
def State.finishMarking (s : State) : State :=
  let s1 := if s.wk.curLong then s else s.updCur fun f => { f with mark := .shortTerm }
  s1.mmco5Finish.boundPools

/-- R771 step 2. -/
def State.markIdr (s : State) : State :=
  if s.first.longTermReference then
    (s.updCur fun f => { f with mark := .longTerm, longTermFrameIdx := 0 }).setMaxLong (some 0)
  else s.updCur fun f => { f with mark := .shortTerm }

/-- The short-term frame that `difference_of_pic_nums_minus1` names (R773). -/
def State.mmcoShort (s : State) (diff : Nat) : Option Nat :=
  s.shortWithPicNum s.first.frameNum s.first.sps.maxFrameNum ((s.first.frameNum : Int) - (diff + 1))

/-- Whether a long-term index is allowed (R775, R779). -/
def State.longIdxOk (s : State) (idx : Nat) : Bool :=
  match s.maxLongTermFrameIdx with
  | none => false
  | some m => decide (idx ≤ m)

/-- Unmark a frame, if there is one. -/
def State.unmark? (s : State) : Option Nat → State
  | none => s
  | some h => s.unmark h

/-- Give a frame a long-term index. -/
def State.makeLong (s : State) (h idx : Nat) : State :=
  s.updFrame h fun f => { f with mark := .longTerm, longTermFrameIdx := idx }

/-- Each operation but the end is followed by the next of the list. -/
def State.mmcoNext (s : State) : State := s.push [.fetch .mmco]

/-- R773. -/
def State.mmcoShortUnused (s : State) (diff : Nat) : State :=
  match s.mmcoShort diff with
  | none => s.markError
  | some h => s.unmark h

/-- R774. -/
def State.mmcoLongUnused (s : State) (num : Nat) : State :=
  match s.longWithNum num with
  | none => s.markError
  | some h => s.unmark h

/-- R775. -/
def State.mmcoShortToLong (s : State) (diff idx : Nat) : State :=
  if !s.longIdxOk idx then s.markError
  else match s.mmcoShort diff with
    | none => s.markError
    | some h => (s.unmark? (s.longWithNum idx)).makeLong h idx

/-- R776. -/
def State.mmcoMaxLongIdx (s : State) (plus1 : Nat) : State :=
  if plus1 > 16 then s.markError
  else
    (s.unmarkAll ((handlesWith s.fs .longTerm).filter fun h => decide (plus1 ≤ (s.frame h).longTermFrameIdx))).setMaxLong
      (if plus1 = 0 then none else some (plus1 - 1))

/-- R777. -/
def State.mmcoAllUnused (s : State) : State :=
  (((s.unmarkAll (s.marked.filter fun h => decide (s.au.curFrame ≠ some h))).setMaxLong none).updCur
    fun f => { f with hadMmco5 := true })

/-- R779. -/
def State.mmcoCurToLong (s : State) (idx : Nat) : State :=
  if !s.longIdxOk idx then s.markError
  else
    let s1 := (s.unmark? (s.longWithNum idx)).makeLong s.cur idx
    s1.setWk { s1.wk with curLong := true }

/-! ## The operations -/

def execMmcoEnd (s : State) : Host.Outcome State Fault Refusal := .next s.finishMarking
def execMmcoShortUnused (diff : Nat) (s : State) : Host.Outcome State Fault Refusal := .next (s.mmcoNext.mmcoShortUnused diff)
def execMmcoLongUnused (num : Nat) (s : State) : Host.Outcome State Fault Refusal := .next (s.mmcoNext.mmcoLongUnused num)
def execMmcoShortToLong (diff idx : Nat) (s : State) : Host.Outcome State Fault Refusal := .next (s.mmcoNext.mmcoShortToLong diff idx)
def execMmcoMaxLongIdx (plus1 : Nat) (s : State) : Host.Outcome State Fault Refusal := .next (s.mmcoNext.mmcoMaxLongIdx plus1)
def execMmcoAllUnused (s : State) : Host.Outcome State Fault Refusal := .next s.mmcoNext.mmcoAllUnused
def execMmcoCurToLong (idx : Nat) (s : State) : Host.Outcome State Fault Refusal := .next (s.mmcoNext.mmcoCurToLong idx)

end Sys2Proof.Machine
end

