-- ==== Sys2Proof/Machine/Frames.lean ====
section
/-! DEFINITION. Frame buffers in memory (20_memory.md R102-R104), frame allocation (43_slice_fsm.md R362), and the write-back of a macroblock (R371 steps 4-6, R384-R386). -/

namespace Sys2Proof.Machine

/-! ## Samples -/

/-- `FRAME_BYTES` (20_memory.md R102). -/
def State.frameBytes (s : State) : Nat := 384 * s.params.maxWidthMbs * s.params.maxHeightMbs

/-- The first byte of frame `h` (20_memory.md R102). -/
def State.frameStart (s : State) (h : Nat) : Nat := s.csr.frameBase.toNat + h * s.frameBytes

/-- The width of a plane (0 Y, 1 Cb, 2 Cr). -/
def planeW (f : Frame) (plane : Nat) : Nat := if plane = 0 then f.w else f.w / 2

/-- The height of a plane. -/
def planeH (f : Frame) (plane : Nat) : Nat := if plane = 0 then f.h else f.h / 2

/-- The byte address of a sample (20_memory.md R102). -/
def State.sampleAddr (s : State) (h plane x y : Nat) : Nat :=
  let f := s.frame h
  s.frameStart h
    + (if plane = 0 then 0 else if plane = 1 then f.w * f.h else f.w * f.h + f.w / 2 * (f.h / 2))
    + y * planeW f plane + x

/-- A sample as a number, 0..255. -/
def State.sample (s : State) (h plane x y : Nat) : Int := (s.byteAt (s.sampleAddr h plane x y)).toNat

/-- `RefSample(f, plane, x, y)` (48_interp_transform.md R680). -/
def State.refSample (s : State) (h plane : Nat) (x y : Int) : Int :=
  let f := s.frame h
  s.sample h plane (clip3 0 (planeW f plane - 1) x).toNat (clip3 0 (planeH f plane - 1) y).toNat

/-! ## The macroblock's place -/

/-- The macroblock's column and row. -/
def State.mbX (s : State) : Nat := s.ds.currMbAddr % s.picWidth

def State.mbY (s : State) : Nat := s.ds.currMbAddr / s.picWidth

/-- The writes of one plane of the reconstructed macroblock (20_memory.md R103). -/
def State.planeWrites (s : State) (plane n : Nat) (recon : List Int) : List (Nat × Byte) :=
  (List.range (n * n)).map fun i =>
    (s.sampleAddr s.cur plane (n * s.mbX + i % n) (n * s.mbY + i / n), BitVec.ofInt 8 (at0 recon i))

/-- The 384 writes of the macroblock (43_slice_fsm.md R371 step 4). -/
def State.mbWrites (s : State) : List (Nat × Byte) :=
  s.planeWrites 0 16 s.mb.reconY ++ s.planeWrites 1 8 s.mb.reconCb ++ s.planeWrites 2 8 s.mb.reconCr

/-! ## Write-back -/

/-- `MbInfo` as it is written (43_slice_fsm.md R384). -/
def State.finalInfo (s : State) : MbInfo :=
  { s.wk.cur with decoded := true, sliceNum := s.ds.sliceNum, qpY := s.ds.qpY }

/-- The per-4x4 counts for the deblocker (43_slice_fsm.md R386): for an 8x8 transform the count of the whole 8x8 block. -/
def dbkNonZero (cabac : Bool) (i : MbInfo) : List Nat :=
  if i.transform8x8 ∧ !cabac then
    (List.range 16).map fun k => ((List.range 4).map fun j => i.coeffLuma.getD (4 * (k / 4) + j) 0).sum
  else i.coeffLuma

/-- Whether some block uses a list. -/
def usesList (m : List BlockMotion) : Bool := m.any fun b => decide (b.refIdx ≥ 0)

/-- The `DeblockerInput` entry (43_slice_fsm.md R386). -/
def dbkOf (cabac : Bool) (i : MbInfo) : DbkMb where
  decoded := true
  sliceNum := i.sliceNum
  mbType := i.mbType
  isIntra := i.isIntra
  isPcm := i.isPcm
  qpY := i.qpY
  transform8x8 := i.transform8x8
  nonZero := dbkNonZero cabac i
  nonZeroCb := i.coeffCb
  nonZeroCr := i.coeffCr
  motion0 := i.motion0
  motion1 := i.motion1
  used0 := usesList i.motion0
  used1 := usesList i.motion1

/-- Change one frame's `DeblockerInput`. -/
def State.updDbk (s : State) (h : Nat) (f : Dbk → Dbk) : State := s.setDbk (s.dbk.modify h f)

/-- Steps 4-6 of 43_slice_fsm.md R371: the samples, the macroblock's records, and the cleared `MB`. -/
def State.writeBack (s : State) : State :=
  let i := s.finalInfo
  let a := s.ds.currMbAddr
  let s1 := s.setMem (Mem.writeAll s.mem s.mbWrites)
  let s2 := s1.setAu { s1.au with mbInfo := s1.au.mbInfo.set a i }
  let s3 := s2.updFrame s.cur fun f => { f with motion := f.motion.set a ⟨i.isIntra, i.motion0, i.motion1⟩ }
  let s4 := s3.updDbk s.cur fun d => { d with mbs := d.mbs.set a (dbkOf s.hdr.pps.cabac i) }
  (s4.setMb MbRec.cleared).setDs { s4.ds with mbCount := s4.ds.mbCount + 1 }

/-! ## Allocation (43_slice_fsm.md R362) -/

/-- The lowest free handle. -/
def State.freeHandle (s : State) : Option Nat :=
  (List.range s.fs.length).find? fun h => !(s.frame h).inUse

/-- The frame metadata a first slice gives. -/
def allocFrame (f : Frame) (h : SliceHdr) (w : Wk) : Frame :=
  { f with inUse := true, held := false, mark := .unused, frameNum := h.frameNum,
           topPoc := w.topPoc, bottomPoc := w.bottomPoc, poc := min w.topPoc w.bottomPoc,
           w := 16 * h.sps.widthInMbs, h := 16 * h.sps.heightInMbs, widthInMbs := h.sps.widthInMbs,
           sizeInMbs := h.sps.sizeInMbs, crop := h.sps.crop, isIdr := h.idr, hadMmco5 := false,
           motion := List.replicate h.sps.sizeInMbs MbMotion.fresh }

/-- The samples of a newly allocated frame hold any value, whatever its buffer held before: a free value each (92_eei_decisions.md D14, D43; log entry 3). -/
def State.freeSamples (s : State) (h n : Nat) : State :=
  (s.setMem (Mem.fill s.mem (s.frameStart h) (384 * n) (Config.freeSample s.freeCtr))).drawn 1

/-- The metadata of the chosen frame, `AU`, and the deblocker's entries. -/
def State.fillRecords (s : State) (h : Nat) : State :=
  let hd := s.hdr
  let n := hd.sps.sizeInMbs
  let s1 := s.updFrame h fun f => allocFrame f hd s.wk
  let s2 := s1.setAu { s1.au with curFrame := some h, firstSlice := some hd,
                                  mbInfo := List.replicate n MbInfo.fresh, map := List.replicate n 0 }
  s2.updDbk h fun _ => ⟨List.replicate n DbkMb.fresh, [], false⟩

/-- Fill the chosen frame: its records, and samples of any value. -/
def State.fillFrame (s : State) (h : Nat) : State := (s.fillRecords h).freeSamples h s.hdr.sps.sizeInMbs

/-- The bytes of the frame exist (70_reset_and_hazards.md R860). -/
def State.frameFits (s : State) (h : Nat) : Bool :=
  decide (s.frameStart h + 384 * s.hdr.sps.sizeInMbs ≤ 2 ^ s.params.addrW)

end Sys2Proof.Machine
end

