-- ==== Sys2Proof/Machine/Intra.lean ====
section
/-! DEFINITION. Spatial prediction (47_intra_pred.md): neighbour samples, legality, mode prediction, and the operations I4X4MODE, I8X8MODE, I16X16MODE, CHROMAMODE. -/

namespace Sys2Proof.Machine

/-! ## Neighbour samples (R620) -/

/-- The reconstructed plane of the macroblock in progress. -/
def MbRec.recon (m : MbRec) (plane : Nat) : List Int :=
  if plane = 0 then m.reconY else if plane = 1 then m.reconCb else m.reconCr

/-- The sample at a location relative to the macroblock, if it is available for intra prediction; `before` says which locations of the current macroblock are (R620). -/
def State.nbSample (s : State) (plane m : Nat) (before : Nat → Nat → Bool) (x y : Int) : Option Int :=
  match s.loc m x y with
  | .unavailable => none
  | .current cx cy => if before cx cy then some (at0 (s.mb.recon plane) (m * cy + cx)) else none
  | .other a ax ay =>
    if s.hdr.pps.constrainedIntraPred && !(s.mbInfoAt a).isIntra then none
    else some (s.sample s.cur plane (m * (a % s.picWidth) + ax) (m * (a / s.picWidth) + ay))

/-- The reference samples of a block: top row (with the top-right part), left column and corner. -/
structure IntraNb where
  hasTop : Bool
  hasLeft : Bool
  hasCorner : Bool
  top : List Int
  left : List Int
  corner : Int
  deriving DecidableEq, Repr

/-- `p[x, -1]`, `x = -1` being the corner. -/
def IntraNb.t (p : IntraNb) (x : Int) : Int := if x < 0 then p.corner else at0 p.top x.toNat

/-- `p[-1, y]`, `y = -1` being the corner. -/
def IntraNb.l (p : IntraNb) (y : Int) : Int := if y < 0 then p.corner else at0 p.left y.toNat

/-- The reference samples of an `n x n` block at `(x0, y0)`; `wide` blocks have a top-right part, replaced by the last top sample when it is unavailable (R625, R640). -/
def State.intraNb (s : State) (plane m n x0 y0 : Nat) (wide : Bool) (before : Nat → Nat → Bool) : IntraNb :=
  let at' (x y : Int) := s.nbSample plane m before (x0 + x) (y0 + y)
  let top := (List.range n).map fun (i : Nat) => at' (i : Int) (-1)
  let right := (List.range (if wide then n else 0)).map fun (i : Nat) => at' ((n : Int) + i) (-1)
  let left := (List.range n).map fun (i : Nat) => at' (-1) (i : Int)
  let corner := at' (-1) (-1)
  let last := (top.getD (n - 1) none).getD 0
  ⟨(top.getD 0 none).isSome, (left.getD 0 none).isSome, corner.isSome,
   top.map (·.getD 0) ++ right.map (·.getD last), left.map (·.getD 0), corner.getD 0⟩

/-- The filtered reference samples of an 8x8 block (R640). -/
def IntraNb.filter8 (p : IntraNb) : IntraNb :=
  let t0 := if p.hasCorner then sar (p.corner + 2 * p.t 0 + p.t 1 + 2) 2 else sar (3 * p.t 0 + p.t 1 + 2) 2
  let top := (List.range 16).map fun (x : Nat) =>
    if x = 0 then t0
    else if x = 15 then sar (p.t 14 + 3 * p.t 15 + 2) 2
    else sar (p.t ((x : Int) - 1) + 2 * p.t x + p.t ((x : Int) + 1) + 2) 2
  let corner :=
    if p.hasTop ∧ p.hasLeft then sar (p.t 0 + 2 * p.corner + p.l 0 + 2) 2
    else if p.hasTop then sar (3 * p.corner + p.t 0 + 2) 2
    else if p.hasLeft then sar (3 * p.corner + p.l 0 + 2) 2
    else p.corner
  let l0 := if p.hasCorner then sar (p.corner + 2 * p.l 0 + p.l 1 + 2) 2 else sar (3 * p.l 0 + p.l 1 + 2) 2
  let left := (List.range 8).map fun (y : Nat) =>
    if y = 0 then l0
    else if y = 7 then sar (p.l 6 + 3 * p.l 7 + 2) 2
    else sar (p.l ((y : Int) - 1) + 2 * p.l y + p.l ((y : Int) + 1) + 2) 2
  { p with top := top, left := left, corner := corner }

/-! ## Mode formulas, for `n x n` blocks with `n` 4 or 8 (R626-R634, R641-R649), 16 (R651-R654) or chroma (R661-R664) -/

def predVertical (p : IntraNb) (x _y : Nat) : Int := p.t x

def predHorizontal (p : IntraNb) (_x y : Nat) : Int := p.l y

/-- DC of an `n x n` block, `n = 2^k` (R628, R643, R653). -/
def predDc (k : Nat) (p : IntraNb) (_x _y : Nat) : Int :=
  let n := 2 ^ k
  let st := sumTo n fun i => p.t i
  let sl := sumTo n fun i => p.l i
  if p.hasTop ∧ p.hasLeft then sar (st + sl + n) (k + 1)
  else if p.hasTop then sar (st + 2 ^ (k - 1)) k
  else if p.hasLeft then sar (sl + 2 ^ (k - 1)) k
  else 128

/-- R629, R644. -/
def predDiagDownLeft (n : Nat) (p : IntraNb) (x y : Nat) : Int :=
  if x = n - 1 ∧ y = n - 1 then sar (p.t (2 * n - 2) + 3 * p.t (2 * n - 1) + 2) 2
  else sar (p.t (x + y) + 2 * p.t (x + y + 1) + p.t (x + y + 2) + 2) 2

/-- The corner value of R630-R632. -/
def IntraNb.cornerTap (p : IntraNb) : Int := sar (p.t 0 + 2 * p.corner + p.l 0 + 2) 2

/-- R630, R645. -/
def predDiagDownRight (p : IntraNb) (x y : Nat) : Int :=
  let d : Int := (x : Int) - y
  if d > 0 then sar (p.t (d - 2) + 2 * p.t (d - 1) + p.t d + 2) 2
  else if d < 0 then sar (p.l (-d - 2) + 2 * p.l (-d - 1) + p.l (-d) + 2) 2
  else p.cornerTap

/-- R631, R646. -/
def predVerticalRight (p : IntraNb) (x y : Nat) : Int :=
  let z : Int := 2 * (x : Int) - y
  let i : Int := (x : Int) - y / 2
  if z < -1 then sar (p.l (-z - 1) + 2 * p.l (-z - 2) + p.l (-z - 3) + 2) 2
  else if z = -1 then p.cornerTap
  else if z % 2 = 0 then sar (p.t (i - 1) + p.t i + 1) 1
  else sar (p.t (i - 2) + 2 * p.t (i - 1) + p.t i + 2) 2

/-- R632, R647. -/
def predHorizontalDown (p : IntraNb) (x y : Nat) : Int :=
  let z : Int := 2 * (y : Int) - x
  let i : Int := (y : Int) - x / 2
  if z < -1 then sar (p.t (-z - 1) + 2 * p.t (-z - 2) + p.t (-z - 3) + 2) 2
  else if z = -1 then p.cornerTap
  else if z % 2 = 0 then sar (p.l (i - 1) + p.l i + 1) 1
  else sar (p.l (i - 2) + 2 * p.l (i - 1) + p.l i + 2) 2

/-- R633, R648. -/
def predVerticalLeft (p : IntraNb) (x y : Nat) : Int :=
  let i : Int := (x : Int) + (y / 2 : Nat)
  if y % 2 = 0 then sar (p.t i + p.t (i + 1) + 1) 1
  else sar (p.t i + 2 * p.t (i + 1) + p.t (i + 2) + 2) 2

/-- R634, R649. -/
def predHorizontalUp (n : Nat) (p : IntraNb) (x y : Nat) : Int :=
  let z := x + 2 * y
  let i : Int := (y : Int) + (x / 2 : Nat)
  if z > 2 * n - 3 then p.l (n - 1)
  else if z = 2 * n - 3 then sar (p.l (n - 2) + 3 * p.l (n - 1) + 2) 2
  else if z % 2 = 0 then sar (p.l i + p.l (i + 1) + 1) 1
  else sar (p.l i + 2 * p.l (i + 1) + p.l (i + 2) + 2) 2

/-- Plane prediction of a `2h x 2h` block with slope factor `f` (R654: `h = 8`, `f = 5`; R664: `h = 4`, `f = 34`). -/
def predPlane (h : Nat) (f : Int) (p : IntraNb) (x y : Nat) : Int :=
  let hh := sumTo h fun i => ((i : Int) + 1) * (p.t (h + i) - p.t ((h : Int) - 2 - i))
  let vv := sumTo h fun i => ((i : Int) + 1) * (p.l (h + i) - p.l ((h : Int) - 2 - i))
  let a := 16 * (p.l (2 * h - 1) + p.t (2 * h - 1))
  let b := sar (f * hh + 32) 6
  let c := sar (f * vv + 32) 6
  clip1 (sar (a + b * ((x : Int) - (h - 1)) + c * ((y : Int) - (h - 1)) + 16) 5)

/-- Chroma DC (R661). -/
def predChromaDc (p : IntraNb) (x y : Nat) : Int :=
  let xo := 4 * (x / 4)
  let yo := 4 * (y / 4)
  let st := sumTo 4 fun i => p.t ((i : Int) + xo)
  let sl := sumTo 4 fun i => p.l ((i : Int) + yo)
  let one (v : Int) := sar (v + 2) 2
  if xo = yo then
    if p.hasTop ∧ p.hasLeft then sar (st + sl + 4) 3
    else if p.hasLeft then one sl
    else if p.hasTop then one st
    else 128
  else if xo = 4 then
    if p.hasTop then one st else if p.hasLeft then one sl else 128
  else if p.hasLeft then one sl else if p.hasTop then one st else 128

/-! ## Legality and the prediction of a block -/

/-- What a mode needs (R621). -/
structure Need where
  top : Bool
  left : Bool
  corner : Bool

def needNone : Need := ⟨false, false, false⟩
def needTop : Need := ⟨true, false, false⟩
def needLeft : Need := ⟨false, true, false⟩
def needAll : Need := ⟨true, true, true⟩

/-- A mode is legal when the samples it needs are available (R621). -/
def Need.met (n : Need) (p : IntraNb) : Bool :=
  (!n.top || p.hasTop) && (!n.left || p.hasLeft) && (!n.corner || p.hasCorner)

/-- Change the prediction of a plane. -/
def Wk.setPred (w : Wk) (plane x0 y0 wd ht : Nat) (vals : List Int) : Wk :=
  if plane = 0 then { w with predY := setBlock w.predY 16 x0 y0 wd ht vals }
  else if plane = 1 then { w with predCb := setBlock w.predCb 8 x0 y0 wd ht vals }
  else { w with predCr := setBlock w.predCr 8 x0 y0 wd ht vals }

/-- Predict an `n x n` block from its reference samples, or raise `E_INVALID` (R621). -/
def State.predBlock (s : State) (plane n x0 y0 : Nat) (p : IntraNb) (need : Need) (f : IntraNb → Nat → Nat → Int) : State :=
  if need.met p then s.setWk (s.wk.setPred plane x0 y0 n n (block n n (f p)))
  else s.raise .invalid

/-- The reference samples of 4x4 luma block `k` (R625). -/
def State.nb4x4 (s : State) (k : Nat) : IntraNb :=
  s.intraNb 0 16 4 (blkX k) (blkY k) true fun x y => decide (blkOf x y < k)

/-- The filtered reference samples of 8x8 luma block `k` (R640). -/
def State.nb8x8 (s : State) (k : Nat) : IntraNb :=
  (s.intraNb 0 16 8 (8 * (k % 2)) (8 * (k / 2)) true fun x y => decide (x / 8 + 2 * (y / 8) < k)).filter8

/-- The reference samples of the macroblock's luma (R650). -/
def State.nb16x16 (s : State) : IntraNb := s.intraNb 0 16 16 0 0 false fun _ _ => false

/-- The reference samples of a chroma component (R660). -/
def State.nbChroma (s : State) (c : Nat) : IntraNb := s.intraNb c 8 8 0 0 false fun _ _ => false

/-- Intra_4x4 of the block in `wk.blk`. -/
def State.intra4x4 (s : State) (need : Need) (f : IntraNb → Nat → Nat → Int) : State :=
  s.predBlock 0 4 (blkX s.wk.blk) (blkY s.wk.blk) (s.nb4x4 s.wk.blk) need f

/-- Intra_8x8 of the block in `wk.blk`. -/
def State.intra8x8 (s : State) (need : Need) (f : IntraNb → Nat → Nat → Int) : State :=
  s.predBlock 0 8 (8 * (s.wk.blk % 2)) (8 * (s.wk.blk / 2)) (s.nb8x8 s.wk.blk) need f

/-- Intra_16x16. -/
def State.intra16x16 (s : State) (need : Need) (f : IntraNb → Nat → Nat → Int) : State :=
  s.predBlock 0 16 0 0 s.nb16x16 need f

/-- Intra chroma of the component in `wk.plane`; a component is Cb or Cr. -/
def State.intraChroma (s : State) (need : Need) (f : IntraNb → Nat → Nat → Int) : State :=
  s.predBlock s.wk.plane 8 0 0 (s.nbChroma s.wk.plane) need f

/-! ## Mode prediction (R622, R623) -/

/-- `modeN` of a neighbouring I_NxN macroblock for a 4x4 block at `(x, y)` in it. -/
def mode4From (i : MbInfo) (x y : Nat) : Nat :=
  if i.transform8x8 then i.intra8x8Mode.getD (blkOf x y / 4) 2 else i.intra4x4Mode.getD (blkOf x y) 2

/-- `modeN` for an 8x8 block; `left` tells A from B. -/
def mode8From (left : Bool) (i : MbInfo) (x y : Nat) : Nat :=
  let n8 := blkOf x y / 4
  if i.transform8x8 then i.intra8x8Mode.getD n8 2
  else i.intra4x4Mode.getD (4 * n8 + if left then 1 else 2) 2

/-- A neighbouring macroblock forces DC (`dcPredModePredictedFlag`). -/
def State.forcesDc (s : State) (l : Loc) : Bool :=
  match l with
  | .unavailable => true
  | .current _ _ => false
  | .other a _ _ => s.hdr.pps.constrainedIntraPred && !(s.mbInfoAt a).isIntra

/-- `modeN` of a location. -/
def State.modeAt (s : State) (l : Loc) (f : MbInfo → Nat → Nat → Nat) : Nat :=
  match s.infoOf s.wk.cur l with
  | none => 2
  | some (i, x, y) => if i.mbType = .iNxN then f i x y else 2

/-- The mode of the block at `(x0, y0)` with coding index `k` (R622). -/
def State.intraMode (s : State) (x0 y0 k : Nat) (fa fb : MbInfo → Nat → Nat → Nat) : Nat :=
  let la := s.loc 16 ((x0 : Int) - 1) y0
  let lb := s.loc 16 x0 ((y0 : Int) - 1)
  let dc := s.forcesDc la || s.forcesDc lb
  let m := if dc then 2 else min (s.modeAt la fa) (s.modeAt lb fb)
  if s.mb.prevIntraFlag.getD k false then m
  else
    let r := s.mb.remIntraMode.getD k 0
    if r < m then r else r + 1

/-! ## The operations -/

/-- R626. -/
def execIntra4x4Vertical (s : State) : Host.Outcome State Fault Refusal := .next (s.intra4x4 needTop predVertical)
/-- R627. -/
def execIntra4x4Horizontal (s : State) : Host.Outcome State Fault Refusal := .next (s.intra4x4 needLeft predHorizontal)
/-- R628. -/
def execIntra4x4Dc (s : State) : Host.Outcome State Fault Refusal := .next (s.intra4x4 needNone (predDc 2))
/-- R629. -/
def execIntra4x4DiagDownLeft (s : State) : Host.Outcome State Fault Refusal := .next (s.intra4x4 needTop (predDiagDownLeft 4))
/-- R630. -/
def execIntra4x4DiagDownRight (s : State) : Host.Outcome State Fault Refusal := .next (s.intra4x4 needAll predDiagDownRight)
/-- R631. -/
def execIntra4x4VerticalRight (s : State) : Host.Outcome State Fault Refusal := .next (s.intra4x4 needAll predVerticalRight)
/-- R632. -/
def execIntra4x4HorizontalDown (s : State) : Host.Outcome State Fault Refusal := .next (s.intra4x4 needAll predHorizontalDown)
/-- R633. -/
def execIntra4x4VerticalLeft (s : State) : Host.Outcome State Fault Refusal := .next (s.intra4x4 needTop predVerticalLeft)
/-- R634. -/
def execIntra4x4HorizontalUp (s : State) : Host.Outcome State Fault Refusal := .next (s.intra4x4 needLeft (predHorizontalUp 4))
/-- R641. -/
def execIntra8x8Vertical (s : State) : Host.Outcome State Fault Refusal := .next (s.intra8x8 needTop predVertical)
/-- R642. -/
def execIntra8x8Horizontal (s : State) : Host.Outcome State Fault Refusal := .next (s.intra8x8 needLeft predHorizontal)
/-- R643. -/
def execIntra8x8Dc (s : State) : Host.Outcome State Fault Refusal := .next (s.intra8x8 needNone (predDc 3))
/-- R644. -/
def execIntra8x8DiagDownLeft (s : State) : Host.Outcome State Fault Refusal := .next (s.intra8x8 needTop (predDiagDownLeft 8))
/-- R645. -/
def execIntra8x8DiagDownRight (s : State) : Host.Outcome State Fault Refusal := .next (s.intra8x8 needAll predDiagDownRight)
/-- R646. -/
def execIntra8x8VerticalRight (s : State) : Host.Outcome State Fault Refusal := .next (s.intra8x8 needAll predVerticalRight)
/-- R647. -/
def execIntra8x8HorizontalDown (s : State) : Host.Outcome State Fault Refusal := .next (s.intra8x8 needAll predHorizontalDown)
/-- R648. -/
def execIntra8x8VerticalLeft (s : State) : Host.Outcome State Fault Refusal := .next (s.intra8x8 needTop predVerticalLeft)
/-- R649. -/
def execIntra8x8HorizontalUp (s : State) : Host.Outcome State Fault Refusal := .next (s.intra8x8 needLeft (predHorizontalUp 8))
/-- R651. -/
def execIntra16x16Vertical (s : State) : Host.Outcome State Fault Refusal := .next (s.intra16x16 needTop predVertical)
/-- R652. -/
def execIntra16x16Horizontal (s : State) : Host.Outcome State Fault Refusal := .next (s.intra16x16 needLeft predHorizontal)
/-- R653. -/
def execIntra16x16Dc (s : State) : Host.Outcome State Fault Refusal := .next (s.intra16x16 needNone (predDc 4))
/-- R654. -/
def execIntra16x16Plane (s : State) : Host.Outcome State Fault Refusal := .next (s.intra16x16 needAll (predPlane 8 5))
/-- R661. -/
def execChromaDc (s : State) : Host.Outcome State Fault Refusal := .next (s.intraChroma needNone predChromaDc)
/-- R662. -/
def execChromaHorizontal (s : State) : Host.Outcome State Fault Refusal := .next (s.intraChroma needLeft predHorizontal)
/-- R663. -/
def execChromaVertical (s : State) : Host.Outcome State Fault Refusal := .next (s.intraChroma needTop predVertical)
/-- R664. -/
def execChromaPlane (s : State) : Host.Outcome State Fault Refusal := .next (s.intraChroma needAll (predPlane 4 34))

end Sys2Proof.Machine
end

