-- ==== Sys2Proof/Machine/Transform.lean ====
section
/-! DEFINITION. Scans, dequantisation, inverse transforms and reconstruction (48_interp_transform.md R720-R740): the operations XFORM. -/

namespace Sys2Proof.Machine

/-! ## Scans and scaling -/

/-- The inverse scan: raster position `r` takes list entry `k` with `zz[k] = r` (R720). -/
def unscan (zz : List Nat) (l : List Int) : List Int := (List.range zz.length).map fun r => at0 l (zz.idxOf r)

/-- The picture's scaling list `i` in raster order (41_parameter_sets.md R266, R721). -/
def State.weightScale (s : State) (zz : List Nat) (i : Nat) : List Int :=
  unscan zz (((picLists s.hdr.sps s.hdr.pps).getD i []).map fun (n : Nat) => (n : Int))

/-- `LevelScale4x4(i, m, y, x)` in raster order (R722). -/
def State.levelScale4 (s : State) (i m : Nat) : List Int :=
  (s.weightScale zz4 i).mapIdx fun r w => w * normAdjust4x4 m (r / 4) (r % 4)

/-- `LevelScale8x8(i, m, y, x)` in raster order, list `6 + i` (R722). -/
def State.levelScale8 (s : State) (i m : Nat) : List Int :=
  (s.weightScale zz8 (6 + i)).mapIdx fun r w => w * normAdjust8x8 m (r / 8) (r % 8)

/-- Scale one coefficient: multiply and shift left from `qP = 6 * t` on, else round and shift right (R730 step 2 with `t = 4`, R732 and R735 with `t = 6`). -/
def scaleCoef (t qp : Nat) (ls c : Int) : Int :=
  if qp / 6 ≥ t then shl (c * ls) (qp / 6 - t)
  else sar (c * ls + 2 ^ (t - 1 - qp / 6)) (t - qp / 6)

/-- Steps 1 and 2 of R730: the scaled coefficients `d`, in raster order. -/
def dequant4 (ls : List Int) (qp : Nat) (dcDone : Bool) (l : List Int) : List Int :=
  (unscan zz4 l).mapIdx fun r c => if dcDone ∧ r = 0 then c else scaleCoef 4 qp (at0 ls r) c

/-- Steps 1 and 2 of R735. -/
def dequant8 (ls : List Int) (qp : Nat) (l : List Int) : List Int :=
  (unscan zz8 l).mapIdx fun r c => scaleCoef 6 qp (at0 ls r) c

/-! ## Transforms -/

/-- The 1-D transform of R730 step 3. -/
def t4 (d : Nat → Int) : List Int :=
  let e0 := d 0 + d 2
  let e1 := d 0 - d 2
  let e2 := sar (d 1) 1 - d 3
  let e3 := d 1 + sar (d 3) 1
  [e0 + e3, e1 + e2, e1 - e2, e0 - e3]

/-- The 1-D transform of R735 step 3. -/
def t8 (d : Nat → Int) : List Int :=
  let a0 := d 0 + d 4
  let a4 := d 0 - d 4
  let a2 := sar (d 2) 1 - d 6
  let a6 := d 2 + sar (d 6) 1
  let b0 := a0 + a6
  let b2 := a4 + a2
  let b4 := a4 - a2
  let b6 := a0 - a6
  let a1 := -d 3 + d 5 - d 7 - sar (d 7) 1
  let a3 := d 1 + d 7 - d 3 - sar (d 3) 1
  let a5 := -d 1 + d 7 + d 5 + sar (d 5) 1
  let a7 := d 3 + d 5 + d 1 + sar (d 1) 1
  let b1 := a1 + sar a7 2
  let b7 := a7 - sar a1 2
  let b3 := a3 + sar a5 2
  let b5 := sar a3 2 - a5
  [b0 + b7, b2 + b5, b4 + b3, b6 + b1, b6 - b1, b4 - b3, b2 - b5, b0 - b7]

/-- A 1-D transform on every row, then on every column of the result. -/
def rowsThenColumns (n : Nat) (t : (Nat → Int) → List Int) (d : List Int) : List Int :=
  let rows := (List.range n).map fun y => t fun x => at0 d (n * y + x)
  let cols := (List.range n).map fun x => t fun y => at0 (rows.getD y []) x
  block n n fun x y => at0 (cols.getD x []) y

/-- `(h + 32) >> 6`. -/
def roundRes (h : Int) : Int := sar (h + 32) 6

/-- Steps 3-5 of R730. -/
def idct4 (d : List Int) : List Int := (rowsThenColumns 4 t4 d).map roundRes

/-- Steps 3-4 of R735. -/
def idct8 (d : List Int) : List Int := (rowsThenColumns 8 t8 d).map roundRes

/-- The 4-point Hadamard transform of R732: a row of `T`. -/
def had4 (d : Nat → Int) : List Int :=
  [d 0 + d 1 + d 2 + d 3, d 0 + d 1 - d 2 - d 3, d 0 - d 1 - d 2 + d 3, d 0 - d 1 + d 2 - d 3]

/-- `dcY` in raster order (R732). -/
def lumaDc (ls0 : Int) (qp : Nat) (l : List Int) : List Int :=
  (rowsThenColumns 4 had4 (unscan zz4 l)).map (scaleCoef 6 qp ls0)

/-- `dcC` in raster order (R733). -/
def chromaDc (ls0 : Int) (qpc : Nat) (l : List Int) : List Int :=
  let c := at0 l
  [c 0 + c 1 + c 2 + c 3, c 0 - c 1 + c 2 - c 3, c 0 + c 1 - c 2 - c 3, c 0 - c 1 - c 2 + c 3].map fun f =>
    sar (shl (f * ls0) (qpc / 6)) 5

/-! ## The working values of a kernel -/

/-- `LevelScale4x4` of the block in progress. -/
def State.ls4 (s : State) : List Int := s.levelScale4 s.wk.listIdx (s.wk.qp % 6)

/-- The scaled coefficients of the 4x4 block in progress (R730 steps 1-2). -/
def State.dequantNow (s : State) : List Int := dequant4 s.ls4 s.wk.qp s.wk.dcDone s.wk.lvl

/-- Keep scaled coefficients and residual. -/
def State.setRes (s : State) (coef res : List Int) : State := s.setWk { s.wk with coef := coef, res := res }

/-- The residual of the 4x4 block in progress (R730). -/
def State.residual4 (s : State) : State := s.setRes s.dequantNow (idct4 s.dequantNow)

/-- The number of samples of the block in progress. -/
def State.blockLen (s : State) : Nat := s.wk.size * s.wk.size

/-- The prediction of a plane. -/
def Wk.pred (w : Wk) (plane : Nat) : List Int :=
  if plane = 0 then w.predY else if plane = 1 then w.predCb else w.predCr

/-- Set the reconstruction of a plane. -/
def MbRec.setRecon (m : MbRec) (plane x0 y0 w h : Nat) (vals : List Int) : MbRec :=
  if plane = 0 then { m with reconY := setBlock m.reconY 16 x0 y0 w h vals }
  else if plane = 1 then { m with reconCb := setBlock m.reconCb 8 x0 y0 w h vals }
  else { m with reconCr := setBlock m.reconCr 8 x0 y0 w h vals }

/-- `u = Clip1(pred + r)` of the block in progress (R738, 46_mb_decoders.md R552). -/
def State.reconBlock (s : State) : List Int :=
  let w := s.wk
  let pw := if w.plane = 0 then 16 else 8
  block w.size w.size fun x y =>
    clip1 (at0 (w.pred w.plane) (pw * (w.by' + y) + w.bx + x) + at0 w.res (w.size * y + x))

/-! ## The operations -/

/-- R730. -/
def execIdct4x4 (s : State) : Host.Outcome State Fault Refusal := .next s.residual4

/-- R731: the scaling branches alone. -/
def execDequantBranches (s : State) : Host.Outcome State Fault Refusal :=
  .next (s.setWk { s.wk with coef := s.dequantNow })

/-- R732. -/
def execLumaDc4x4 (s : State) : Host.Outcome State Fault Refusal :=
  .next (s.setWk { s.wk with dcY := lumaDc (at0 s.ls4 0) s.wk.qp s.wk.lvl })

/-- R733. -/
def execChromaDc2x2 (s : State) : Host.Outcome State Fault Refusal :=
  .next (s.setWk { s.wk with dcC := chromaDc (at0 s.ls4 0) s.wk.qp s.wk.lvl })

/-- R734: R730 with the DC already scaled. -/
def execChromaAc (s : State) : Host.Outcome State Fault Refusal :=
  .next (s.setWk { s.wk with dcDone := true }).residual4

/-- R735. -/
def execIdct8x8 (s : State) : Host.Outcome State Fault Refusal :=
  let d := dequant8 (s.levelScale8 s.wk.listIdx (s.wk.qp % 6)) s.wk.qp s.wk.lvl
  .next (s.setRes d (idct8 d))

/-- R738, R552. -/
def execReconClip (s : State) : Host.Outcome State Fault Refusal :=
  .next (s.setMb (s.mb.setRecon s.wk.plane s.wk.bx s.wk.by' s.wk.size s.wk.size s.reconBlock))

/-- R739: a block whose levels are all 0 has a zero residual. -/
def execZeroBlock (s : State) : Host.Outcome State Fault Refusal :=
  .next (s.setRes (List.replicate s.blockLen 0) (List.replicate s.blockLen 0))

/-- R740: a block with only a DC coefficient has a flat residual. -/
def execDcOnly4x4 (s : State) : Host.Outcome State Fault Refusal :=
  .next (s.setRes s.dequantNow (List.replicate 16 (roundRes (at0 s.dequantNow 0))))

end Sys2Proof.Machine
end

