-- ==== Sys2Proof/Machine/Interp.lean ====
section
/-! DEFINITION. Sample interpolation (48_interp_transform.md R680-R695): the operations QPEL_LUMA and CPEL_CHROMA, each for the partition and list in progress. -/

namespace Sys2Proof.Machine

/-- A plane of samples over all integer coordinates (R680). -/
abbrev Samples := Int → Int → Int

/-- The 6-tap filter (R681). -/
def tap (s0 s1 s2 s3 s4 s5 : Int) : Int := s0 + s5 + 5 * (shl (s2 + s3) 2 - (s1 + s4))

/-- `b1` (R681). -/
def tapH (r : Samples) (x y : Int) : Int :=
  tap (r (x - 2) y) (r (x - 1) y) (r x y) (r (x + 1) y) (r (x + 2) y) (r (x + 3) y)

/-- `h1` (R681). -/
def tapV (r : Samples) (x y : Int) : Int :=
  tap (r x (y - 2)) (r x (y - 1)) (r x y) (r x (y + 1)) (r x (y + 2)) (r x (y + 3))

/-- A half sample from its tap sum (R681). -/
def half (v : Int) : Int := clip1 (sar (v + 16) 5)

/-- `(a + b + 1) >> 1` (R682). -/
def avg (a b : Int) : Int := sar (a + b + 1) 1

/-! ## The half samples around `(x, y)` (R681) -/

def halfB (r : Samples) (x y : Int) : Int := half (tapH r x y)
def halfH (r : Samples) (x y : Int) : Int := half (tapV r x y)
def halfS (r : Samples) (x y : Int) : Int := half (tapH r x (y + 1))
def halfM (r : Samples) (x y : Int) : Int := half (tapV r (x + 1) y)

/-- `j`: the taps of the unrounded horizontal sums. -/
def halfJ (r : Samples) (x y : Int) : Int :=
  clip1 (sar (tap (tapH r x (y - 2)) (tapH r x (y - 1)) (tapH r x y) (tapH r x (y + 1)) (tapH r x (y + 2))
    (tapH r x (y + 3)) + 512) 10)

/-! ## The sixteen luma phases (R682) -/

def phase00 (r : Samples) (x y : Int) : Int := r x y
def phase01 (r : Samples) (x y : Int) : Int := avg (r x y) (halfH r x y)
def phase02 (r : Samples) (x y : Int) : Int := halfH r x y
def phase03 (r : Samples) (x y : Int) : Int := avg (r x (y + 1)) (halfH r x y)
def phase10 (r : Samples) (x y : Int) : Int := avg (r x y) (halfB r x y)
def phase11 (r : Samples) (x y : Int) : Int := avg (halfB r x y) (halfH r x y)
def phase12 (r : Samples) (x y : Int) : Int := avg (halfH r x y) (halfJ r x y)
def phase13 (r : Samples) (x y : Int) : Int := avg (halfH r x y) (halfS r x y)
def phase20 (r : Samples) (x y : Int) : Int := halfB r x y
def phase21 (r : Samples) (x y : Int) : Int := avg (halfB r x y) (halfJ r x y)
def phase22 (r : Samples) (x y : Int) : Int := halfJ r x y
def phase23 (r : Samples) (x y : Int) : Int := avg (halfJ r x y) (halfS r x y)
def phase30 (r : Samples) (x y : Int) : Int := avg (r (x + 1) y) (halfB r x y)
def phase31 (r : Samples) (x y : Int) : Int := avg (halfB r x y) (halfM r x y)
def phase32 (r : Samples) (x y : Int) : Int := avg (halfJ r x y) (halfM r x y)
def phase33 (r : Samples) (x y : Int) : Int := avg (halfM r x y) (halfS r x y)

/-- A chroma sample at phase `(fx, fy)` (R691). -/
def chromaPhase (fx fy : Int) (r : Samples) (x y : Int) : Int :=
  sar ((8 - fx) * (8 - fy) * r x y + fx * (8 - fy) * r (x + 1) y + (8 - fx) * fy * r x (y + 1)
    + fx * fy * r (x + 1) (y + 1) + 32) 6

/-! ## Blocks -/

/-- The 4x4 block at a partition's upper left corner. -/
def Part.blk (q : Part) : Nat := blkOf q.x q.y

/-- The motion of the partition in progress in the list in progress. -/
def State.partMotion (s : State) : BlockMotion := s.wk.cur.motion s.wk.list s.wk.part.blk

/-- The samples of the referenced frame's plane (R680). -/
def State.refSamples (s : State) (plane : Nat) : Samples := fun x y => s.refSample (s.partMotion.refPic.getD 0) plane x y

/-- Keep the prediction of a plane for the list in progress. -/
def Wk.setPartPred (w : Wk) (plane : Nat) (vals : List Int) : Wk :=
  if w.list = 0 then { w with part0 := w.part0.set plane vals } else { w with part1 := w.part1.set plane vals }

/-- The luma prediction of the partition in progress from a phase (R683). -/
def State.predLumaBlock (s : State) (f : Samples → Int → Int → Int) : State :=
  let q := s.wk.part
  let m := s.partMotion.mv
  let x0 : Int := (16 * s.mbX + q.x : Nat) + sar m.x 2
  let y0 : Int := (16 * s.mbY + q.y : Nat) + sar m.y 2
  s.setWk (s.wk.setPartPred 0 (block q.w q.h fun x y => f (s.refSamples 0) (x0 + x) (y0 + y)))

/-- The chroma prediction of the partition in progress for the component in progress (R690, R691). -/
def State.predChromaBlock (s : State) (fx fy : Int) : State :=
  let q := s.wk.part
  let c := s.wk.comp
  let m := s.partMotion.mv
  let x0 : Int := (8 * s.mbX + q.x / 2 : Nat) + sar m.x 3
  let y0 : Int := (8 * s.mbY + q.y / 2 : Nat) + sar m.y 3
  s.setWk (s.wk.setPartPred c
    (block (q.w / 2) (q.h / 2) fun x y => chromaPhase fx fy (s.refSamples c) (x0 + x) (y0 + y)))

/-- The luma phase selector `(xFrac << 2) | yFrac` (R683). -/
def lumaPhaseOf (m : Mv) : Nat := ((m.x % 4) * 4 + m.y % 4).toNat

/-- The chroma phase selector `(xFC << 3) | yFC` (R691). -/
def chromaPhaseOf (m : Mv) : Nat := ((m.x % 8) * 8 + m.y % 8).toNat

/-! ## The operations -/

def execQpel00G (s : State) : Host.Outcome State Fault Refusal := .next (s.predLumaBlock phase00)
def execQpel01d (s : State) : Host.Outcome State Fault Refusal := .next (s.predLumaBlock phase01)
def execQpel02h (s : State) : Host.Outcome State Fault Refusal := .next (s.predLumaBlock phase02)
def execQpel03n (s : State) : Host.Outcome State Fault Refusal := .next (s.predLumaBlock phase03)
def execQpel10a (s : State) : Host.Outcome State Fault Refusal := .next (s.predLumaBlock phase10)
def execQpel11e (s : State) : Host.Outcome State Fault Refusal := .next (s.predLumaBlock phase11)
def execQpel12i (s : State) : Host.Outcome State Fault Refusal := .next (s.predLumaBlock phase12)
def execQpel13p (s : State) : Host.Outcome State Fault Refusal := .next (s.predLumaBlock phase13)
def execQpel20b (s : State) : Host.Outcome State Fault Refusal := .next (s.predLumaBlock phase20)
def execQpel21f (s : State) : Host.Outcome State Fault Refusal := .next (s.predLumaBlock phase21)
def execQpel22j (s : State) : Host.Outcome State Fault Refusal := .next (s.predLumaBlock phase22)
def execQpel23q (s : State) : Host.Outcome State Fault Refusal := .next (s.predLumaBlock phase23)
def execQpel30c (s : State) : Host.Outcome State Fault Refusal := .next (s.predLumaBlock phase30)
def execQpel31g (s : State) : Host.Outcome State Fault Refusal := .next (s.predLumaBlock phase31)
def execQpel32k (s : State) : Host.Outcome State Fault Refusal := .next (s.predLumaBlock phase32)
def execQpel33r (s : State) : Host.Outcome State Fault Refusal := .next (s.predLumaBlock phase33)

def execCpel00 (s : State) : Host.Outcome State Fault Refusal := .next (s.predChromaBlock 0 0)
def execCpel01 (s : State) : Host.Outcome State Fault Refusal := .next (s.predChromaBlock 0 1)
def execCpel02 (s : State) : Host.Outcome State Fault Refusal := .next (s.predChromaBlock 0 2)
def execCpel03 (s : State) : Host.Outcome State Fault Refusal := .next (s.predChromaBlock 0 3)
def execCpel04 (s : State) : Host.Outcome State Fault Refusal := .next (s.predChromaBlock 0 4)
def execCpel05 (s : State) : Host.Outcome State Fault Refusal := .next (s.predChromaBlock 0 5)
def execCpel06 (s : State) : Host.Outcome State Fault Refusal := .next (s.predChromaBlock 0 6)
def execCpel07 (s : State) : Host.Outcome State Fault Refusal := .next (s.predChromaBlock 0 7)
def execCpel10 (s : State) : Host.Outcome State Fault Refusal := .next (s.predChromaBlock 1 0)
def execCpel11 (s : State) : Host.Outcome State Fault Refusal := .next (s.predChromaBlock 1 1)
def execCpel12 (s : State) : Host.Outcome State Fault Refusal := .next (s.predChromaBlock 1 2)
def execCpel13 (s : State) : Host.Outcome State Fault Refusal := .next (s.predChromaBlock 1 3)
def execCpel14 (s : State) : Host.Outcome State Fault Refusal := .next (s.predChromaBlock 1 4)
def execCpel15 (s : State) : Host.Outcome State Fault Refusal := .next (s.predChromaBlock 1 5)
def execCpel16 (s : State) : Host.Outcome State Fault Refusal := .next (s.predChromaBlock 1 6)
def execCpel17 (s : State) : Host.Outcome State Fault Refusal := .next (s.predChromaBlock 1 7)
def execCpel20 (s : State) : Host.Outcome State Fault Refusal := .next (s.predChromaBlock 2 0)
def execCpel21 (s : State) : Host.Outcome State Fault Refusal := .next (s.predChromaBlock 2 1)
def execCpel22 (s : State) : Host.Outcome State Fault Refusal := .next (s.predChromaBlock 2 2)
def execCpel23 (s : State) : Host.Outcome State Fault Refusal := .next (s.predChromaBlock 2 3)
def execCpel24 (s : State) : Host.Outcome State Fault Refusal := .next (s.predChromaBlock 2 4)
def execCpel25 (s : State) : Host.Outcome State Fault Refusal := .next (s.predChromaBlock 2 5)
def execCpel26 (s : State) : Host.Outcome State Fault Refusal := .next (s.predChromaBlock 2 6)
def execCpel27 (s : State) : Host.Outcome State Fault Refusal := .next (s.predChromaBlock 2 7)
def execCpel30 (s : State) : Host.Outcome State Fault Refusal := .next (s.predChromaBlock 3 0)
def execCpel31 (s : State) : Host.Outcome State Fault Refusal := .next (s.predChromaBlock 3 1)
def execCpel32 (s : State) : Host.Outcome State Fault Refusal := .next (s.predChromaBlock 3 2)
def execCpel33 (s : State) : Host.Outcome State Fault Refusal := .next (s.predChromaBlock 3 3)
def execCpel34 (s : State) : Host.Outcome State Fault Refusal := .next (s.predChromaBlock 3 4)
def execCpel35 (s : State) : Host.Outcome State Fault Refusal := .next (s.predChromaBlock 3 5)
def execCpel36 (s : State) : Host.Outcome State Fault Refusal := .next (s.predChromaBlock 3 6)
def execCpel37 (s : State) : Host.Outcome State Fault Refusal := .next (s.predChromaBlock 3 7)
def execCpel40 (s : State) : Host.Outcome State Fault Refusal := .next (s.predChromaBlock 4 0)
def execCpel41 (s : State) : Host.Outcome State Fault Refusal := .next (s.predChromaBlock 4 1)
def execCpel42 (s : State) : Host.Outcome State Fault Refusal := .next (s.predChromaBlock 4 2)
def execCpel43 (s : State) : Host.Outcome State Fault Refusal := .next (s.predChromaBlock 4 3)
def execCpel44 (s : State) : Host.Outcome State Fault Refusal := .next (s.predChromaBlock 4 4)
def execCpel45 (s : State) : Host.Outcome State Fault Refusal := .next (s.predChromaBlock 4 5)
def execCpel46 (s : State) : Host.Outcome State Fault Refusal := .next (s.predChromaBlock 4 6)
def execCpel47 (s : State) : Host.Outcome State Fault Refusal := .next (s.predChromaBlock 4 7)
def execCpel50 (s : State) : Host.Outcome State Fault Refusal := .next (s.predChromaBlock 5 0)
def execCpel51 (s : State) : Host.Outcome State Fault Refusal := .next (s.predChromaBlock 5 1)
def execCpel52 (s : State) : Host.Outcome State Fault Refusal := .next (s.predChromaBlock 5 2)
def execCpel53 (s : State) : Host.Outcome State Fault Refusal := .next (s.predChromaBlock 5 3)
def execCpel54 (s : State) : Host.Outcome State Fault Refusal := .next (s.predChromaBlock 5 4)
def execCpel55 (s : State) : Host.Outcome State Fault Refusal := .next (s.predChromaBlock 5 5)
def execCpel56 (s : State) : Host.Outcome State Fault Refusal := .next (s.predChromaBlock 5 6)
def execCpel57 (s : State) : Host.Outcome State Fault Refusal := .next (s.predChromaBlock 5 7)
def execCpel60 (s : State) : Host.Outcome State Fault Refusal := .next (s.predChromaBlock 6 0)
def execCpel61 (s : State) : Host.Outcome State Fault Refusal := .next (s.predChromaBlock 6 1)
def execCpel62 (s : State) : Host.Outcome State Fault Refusal := .next (s.predChromaBlock 6 2)
def execCpel63 (s : State) : Host.Outcome State Fault Refusal := .next (s.predChromaBlock 6 3)
def execCpel64 (s : State) : Host.Outcome State Fault Refusal := .next (s.predChromaBlock 6 4)
def execCpel65 (s : State) : Host.Outcome State Fault Refusal := .next (s.predChromaBlock 6 5)
def execCpel66 (s : State) : Host.Outcome State Fault Refusal := .next (s.predChromaBlock 6 6)
def execCpel67 (s : State) : Host.Outcome State Fault Refusal := .next (s.predChromaBlock 6 7)
def execCpel70 (s : State) : Host.Outcome State Fault Refusal := .next (s.predChromaBlock 7 0)
def execCpel71 (s : State) : Host.Outcome State Fault Refusal := .next (s.predChromaBlock 7 1)
def execCpel72 (s : State) : Host.Outcome State Fault Refusal := .next (s.predChromaBlock 7 2)
def execCpel73 (s : State) : Host.Outcome State Fault Refusal := .next (s.predChromaBlock 7 3)
def execCpel74 (s : State) : Host.Outcome State Fault Refusal := .next (s.predChromaBlock 7 4)
def execCpel75 (s : State) : Host.Outcome State Fault Refusal := .next (s.predChromaBlock 7 5)
def execCpel76 (s : State) : Host.Outcome State Fault Refusal := .next (s.predChromaBlock 7 6)
def execCpel77 (s : State) : Host.Outcome State Fault Refusal := .next (s.predChromaBlock 7 7)

end Sys2Proof.Machine
end

