-- ==== Sys2Proof/Machine/Inter.lean ====
section
/-! DEFINITION. Motion vectors (46_mb_decoders.md R565-R575), direct prediction (R585-R592) and weighted prediction (R600-R604) of a (sub-)partition. -/

namespace Sys2Proof.Machine

/-! ## Neighbour partitions (R566) -/

/-- A neighbour's motion in one list. -/
structure NbMotion where
  avail : Bool
  refIdx : Int
  mv : Mv
  deriving DecidableEq, Repr

/-- A block's motion in list `x` as a neighbour sees it. -/
def nbOfBlock (i : MbInfo) (x k : Nat) : NbMotion :=
  let m := i.motion x k
  if i.isIntra ∨ m.refIdx < 0 then ⟨true, -1, Mv.zero⟩ else ⟨true, m.refIdx, m.mv⟩

/-- The motion at a luma location; a block of the current macroblock is available once its motion is known. -/
def State.nbMotion (s : State) (x : Nat) (px py : Int) : NbMotion :=
  match s.loc 16 px py with
  | .unavailable => ⟨false, -1, Mv.zero⟩
  | .current bx by' =>
    if s.wk.motDone.getD (blkOf bx by') false then nbOfBlock s.wk.cur x (blkOf bx by') else ⟨false, -1, Mv.zero⟩
  | .other a bx by' => nbOfBlock (s.mbInfoAt a) x (blkOf bx by')

/-- The neighbours `A`, `B`, `C` of a partition, `D` in the place of an unavailable `C`. -/
structure NbTriple where
  a : NbMotion
  b : NbMotion
  c : NbMotion
  deriving DecidableEq, Repr

def State.nbTriple (s : State) (x px py w : Nat) : NbTriple :=
  let c := s.nbMotion x ((px : Int) + w) ((py : Int) - 1)
  ⟨s.nbMotion x ((px : Int) - 1) py, s.nbMotion x px ((py : Int) - 1),
   if c.avail then c else s.nbMotion x ((px : Int) - 1) ((py : Int) - 1)⟩

/-! ## The predictor (R567) -/

/-- Median prediction. -/
def medianPred (t : NbTriple) (refIdx : Int) : Mv :=
  let only := !t.b.avail && !t.c.avail && t.a.avail
  let b := if only then t.a else t.b
  let c := if only then t.a else t.c
  match [t.a, b, c].filter fun n => decide (n.refIdx = refIdx) with
  | [n] => n.mv
  | _ => ⟨median t.a.mv.x b.mv.x c.mv.x, median t.a.mv.y b.mv.y c.mv.y⟩

/-- The predictor from the neighbours, for partition `p` of a shape (1 is 16x8, 2 is 8x16). -/
def mvPredOf (t : NbTriple) (refIdx : Int) (shape p : Nat) : Mv :=
  if shape = 1 ∧ p = 0 ∧ t.b.refIdx = refIdx then t.b.mv
  else if shape = 1 ∧ p = 1 ∧ t.a.refIdx = refIdx then t.a.mv
  else if shape = 2 ∧ p = 0 ∧ t.a.refIdx = refIdx then t.a.mv
  else if shape = 2 ∧ p = 1 ∧ t.c.refIdx = refIdx then t.c.mv
  else medianPred t refIdx

/-! ## The motion of a partition -/

/-- The motion of a block that references index `ri` of list `x`; `NoRef` is `E_INVALID` (R560). -/
def State.refMotion (s : State) (x ri : Nat) (mv mvd : Mv) : Except ErrCode BlockMotion :=
  match s.hdr.refAt x ri with
  | none => .error .invalid
  | some f => .ok ⟨mv, ri, some f, decide ((s.frame f).mark = .longTerm), ⟨iabs mvd.x, iabs mvd.y⟩⟩

/-- A coded partition (R568). -/
def State.codedMotion (s : State) (q : Part) (x : Nat) : Except ErrCode BlockMotion :=
  if !q.uses x then .ok BlockMotion.none
  else
    let ri := (if x = 0 then s.mb.refIdx0 else s.mb.refIdx1).getD q.p 0
    let mvd := ((if x = 0 then s.mb.mvd0 else s.mb.mvd1).getD q.p []).getD q.s Mv.zero
    let p := mvPredOf (s.nbTriple x q.x q.y q.w) ri q.shape q.p
    let mv : Mv := ⟨p.x + mvd.x, p.y + mvd.y⟩
    if mvIn16 mv then s.refMotion x ri mv mvd else .error .invalid

/-- The vector of P_Skip (R575). -/
def skipMv (t : NbTriple) : Mv :=
  let still (n : NbMotion) : Bool := decide (n.refIdx = 0) && decide (n.mv = Mv.zero)
  if !t.a.avail || !t.b.avail || still t.a || still t.b then Mv.zero else mvPredOf t 0 0 0

/-! ## Direct prediction -/

/-- A co-located block (R590). -/
structure Col where
  mv : Mv
  refIdx : Int
  refPic : Option Nat
  deriving DecidableEq, Repr

/-- The co-located block of block `k` in a macroblock's stored motion. -/
def colOf (m : MbMotion) (k : Nat) : Col :=
  if m.isIntra then ⟨Mv.zero, -1, none⟩
  else
    let b0 := m.motion0.getD k BlockMotion.none
    let b1 := m.motion1.getD k BlockMotion.none
    if b0.refIdx ≥ 0 then ⟨b0.mv, b0.refIdx, b0.refPic⟩ else ⟨b1.mv, b1.refIdx, b1.refPic⟩

/-- The co-located block of block `k` in frame `c` (R590). -/
def State.colocated (s : State) (c k : Nat) : Col :=
  colOf ((s.frame c).motion.getD s.ds.currMbAddr MbMotion.fresh)
    (if s.hdr.sps.direct8x8Inference then 5 * (k / 4) else k)

/-- `MinPositive` (R586). -/
def minPositive (x y : Int) : Int := if x ≥ 0 ∧ y ≥ 0 then min x y else max x y

/-- The reference index that the neighbours give list `x` (R586). -/
def spatialRef (t : NbTriple) : Int := minPositive t.a.refIdx (minPositive t.b.refIdx t.c.refIdx)

/-- `colZeroFlag` (R587). -/
def colZero (colShort : Bool) (c : Col) : Bool :=
  colShort && decide (c.refIdx = 0) && decide (iabs c.mv.x ≤ 1) && decide (iabs c.mv.y ≤ 1)

/-- Spatial direct motion in list `x` (R587), from the index `ri` of R586. -/
def State.spatialMotion (s : State) (x : Nat) (t : NbTriple) (zero colZ : Bool) (ri : Int) : Except ErrCode BlockMotion :=
  if ri < 0 then .ok BlockMotion.none
  else
    let mv := if zero ∨ (ri = 0 ∧ colZ) then Mv.zero else mvPredOf t ri 0 0
    s.refMotion x ri.toNat mv Mv.zero

/-- Spatial direct motion of block `k` (R586, R587). -/
def State.spatialDirect (s : State) (c k : Nat) : Except ErrCode (BlockMotion × BlockMotion) := do
  let t0 := s.nbTriple 0 0 0 16
  let t1 := s.nbTriple 1 0 0 16
  let zero := decide (spatialRef t0 < 0) && decide (spatialRef t1 < 0)
  let z := colZero (decide ((s.frame c).mark = .shortTerm)) (s.colocated c k)
  let m0 ← s.spatialMotion 0 t0 zero z (if zero then 0 else spatialRef t0)
  let m1 ← s.spatialMotion 1 t1 zero z (if zero then 0 else spatialRef t1)
  return (m0, m1)

/-- `DiffPicOrderCnt(a, b)` (R592). -/
def State.diffPoc (s : State) (a b : Nat) : Int := (s.frame a).poc - (s.frame b).poc

/-- `DistScaleFactor` of two picture distances (R592). -/
def distScale (curDiff picDiff : Int) : Int :=
  let tb := clip3 (-128) 127 curDiff
  let td := clip3 (-128) 127 picDiff
  let tx := tdiv (16384 + iabs (tdiv td 2)) td
  clip3 (-1024) 1023 (sar (tb * tx + 32) 6)

/-- `DistScaleFactor` for the current picture and two references. -/
def State.dsf (s : State) (pic0 pic1 : Nat) : Int := distScale (s.diffPoc s.cur pic0) (s.diffPoc pic1 pic0)

/-- A scaled vector component (R591). -/
def scaleMv (dsf v : Int) : Int := sar (dsf * v + 128) 8

/-- The reference index of list 0 that a co-located block gives (R591). -/
def temporalRef (list0 : List (Option Nat)) (c : Col) : Option Nat :=
  if c.refIdx < 0 then some 0
  else (List.range list0.length).find? fun i => decide (list0.getD i none = c.refPic) && (list0.getD i none).isSome

/-- Temporal direct motion of block `k` (R591); a scaled vector whose component leaves -32768..32767 is `E_INVALID` (92_eei_decisions.md D11). -/
def State.temporalDirect (s : State) (pic1 k : Nat) : Except ErrCode (BlockMotion × BlockMotion) := do
  let c := s.colocated pic1 k
  match temporalRef s.hdr.list0 c with
  | none => throw .invalid
  | some ri =>
    let m0 ← s.refMotion 0 ri c.mv Mv.zero
    let pic0 := m0.refPic.getD 0
    if (s.frame pic0).mark = .longTerm ∨ s.diffPoc pic1 pic0 = 0 then
      return (m0, ← s.refMotion 1 0 Mv.zero Mv.zero)
    else
      let d := s.dsf pic0 pic1
      let mv0 : Mv := ⟨scaleMv d c.mv.x, scaleMv d c.mv.y⟩
      let mv1 : Mv := ⟨mv0.x - c.mv.x, mv0.y - c.mv.y⟩
      if mvIn16 mv0 && mvIn16 mv1 then return ({ m0 with mv := mv0 }, ← s.refMotion 1 0 mv1 Mv.zero)
      else throw .invalid

/-- Direct motion of block `k` (R585, R590): `RefPicList1[0]` must be a frame. -/
def State.directMotion (s : State) (k : Nat) : Except ErrCode (BlockMotion × BlockMotion) :=
  match s.hdr.refAt 1 0 with
  | none => .error .invalid
  | some c => if s.hdr.directSpatial then s.spatialDirect c k else s.temporalDirect c k

/-- The motion of a (sub-)partition in both lists (R560 steps 1-2). -/
def State.motionOf (s : State) (q : Part) : Except ErrCode (BlockMotion × BlockMotion) := do
  if q.direct then s.directMotion q.blk
  else if q.skip then
    let m0 ← s.refMotion 0 0 (skipMv (s.nbTriple 0 0 0 16)) Mv.zero
    return (m0, BlockMotion.none)
  else
    let m0 ← s.codedMotion q 0
    let m1 ← s.codedMotion q 1
    return (m0, m1)

/-- Store the motion of a partition's blocks (R561). -/
def Wk.storeMotion (w : Wk) (q : Part) (m0 m1 : BlockMotion) : Wk :=
  { w with part := q,
           cur := (w.cur.setMotion 0 q.blocks fun _ => m0).setMotion 1 q.blocks fun _ => m1,
           motDone := w.motDone.mapIdx fun k d => d || q.blocks.contains k }

/-- The predictions that a partition's motion asks for, then their combination (R560 steps 3-4). -/
def predTasks (m0 m1 : BlockMotion) : List Task :=
  (if m0.refIdx ≥ 0 then [.predLuma 0, .predChroma 0 1, .predChroma 0 2] else [])
    ++ (if m1.refIdx ≥ 0 then [.predLuma 1, .predChroma 1 1, .predChroma 1 2] else []) ++ [.weight]

/-- R560 for the `i`-th (sub-)partition. -/
def State.startPart (s : State) (i : Nat) : State :=
  let q := (partsOf s.mb.mbType s.mb.subTypes).getD i Part.whole
  match s.motionOf q with
  | .error e => s.raise e
  | .ok (m0, m1) => (s.setWk (s.wk.storeMotion q m0 m1)).push (predTasks m0 m1)

/-! ## Weighted sample prediction (R600-R603) -/

/-- Weights and offsets of one plane. -/
structure PlaneWeights where
  logWD : Nat
  w0 : Int
  o0 : Int
  w1 : Int
  o1 : Int
  deriving DecidableEq, Repr

/-- One list with a weight (R602). -/
def weightOne (logWD : Nat) (w o p : Int) : Int :=
  if logWD ≥ 1 then clip1 (sar (p * w + 2 ^ (logWD - 1)) logWD + o) else clip1 (p * w + o)

/-- Both lists with weights (R602). -/
def weightBoth (g : PlaneWeights) (p0 p1 : Int) : Int :=
  clip1 (sar (p0 * g.w0 + p1 * g.w1 + 2 ^ g.logWD) (g.logWD + 1) + sar (g.o0 + g.o1 + 1) 1)

/-- The weight of a plane in an entry of the table. -/
def RefWeight.plane (r : RefWeight) (plane : Nat) : Weight :=
  if plane = 0 then r.luma else if plane = 1 then r.cb else r.cr

/-- The explicit weights of a plane for two reference indices (R602). -/
def SliceHdr.explicitWeights (h : SliceHdr) (plane : Nat) (r0 r1 : Int) : PlaneWeights :=
  let z : RefWeight := ⟨false, false, ⟨0, 0⟩, ⟨0, 0⟩, ⟨0, 0⟩⟩
  let a := (h.weights0.getD r0.toNat z).plane plane
  let b := (h.weights1.getD r1.toNat z).plane plane
  ⟨if plane = 0 then h.lumaLog2Denom else h.chromaLog2Denom, a.w, a.o, b.w, b.o⟩

/-- The implicit weights of two frames (R603). -/
def State.implicitWeights (s : State) (pic0 pic1 : Nat) : PlaneWeights :=
  let d := sar (s.dsf pic0 pic1) 2
  if s.diffPoc pic1 pic0 = 0 ∨ (s.frame pic0).mark = .longTerm ∨ (s.frame pic1).mark = .longTerm ∨ d < -64 ∨ d > 128 then
    ⟨5, 32, 0, 32, 0⟩
  else ⟨5, 64 - d, 0, d, 0⟩

/-- The combination of a sample (R600-R603) for a block's motion in both lists. -/
def State.combine (s : State) (plane : Nat) (m0 m1 : BlockMotion) (p0 p1 : Int) : Int :=
  let both := decide (m0.refIdx ≥ 0) && decide (m1.refIdx ≥ 0)
  let use0 := decide (m0.refIdx ≥ 0)
  match s.hdr.weightMode with
  | .explicit =>
    let g := s.hdr.explicitWeights plane m0.refIdx m1.refIdx
    if both then weightBoth g p0 p1
    else if use0 then weightOne g.logWD g.w0 g.o0 p0
    else weightOne g.logWD g.w1 g.o1 p1
  | .implicit =>
    if both then weightBoth (s.implicitWeights (m0.refPic.getD 0) (m1.refPic.getD 0)) p0 p1
    else if use0 then p0 else p1
  | .default => if both then avg p0 p1 else if use0 then p0 else p1

/-- The combined block of a plane. -/
def State.combined (s : State) (plane : Nat) : List Int :=
  let k := s.wk.part.blk
  let l0 := s.wk.part0.getD plane []
  let l1 := s.wk.part1.getD plane []
  let n := if plane = 0 then s.wk.part.w * s.wk.part.h else s.wk.part.w / 2 * (s.wk.part.h / 2)
  (List.range n).map fun i => s.combine plane (s.wk.cur.motion 0 k) (s.wk.cur.motion 1 k) (at0 l0 i) (at0 l1 i)

/-- R600 for the partition in progress. -/
def State.weightPart (s : State) : State :=
  let q := s.wk.part
  let w1 := s.wk.setPred 0 q.x q.y q.w q.h (s.combined 0)
  let w2 := w1.setPred 1 (q.x / 2) (q.y / 2) (q.w / 2) (q.h / 2) (s.combined 1)
  s.setWk (w2.setPred 2 (q.x / 2) (q.y / 2) (q.w / 2) (q.h / 2) (s.combined 2))

end Sys2Proof.Machine
end

