-- ==== Sys2Proof/Machine/MbExec.lean ====
section
/-! DEFINITION. Decoding a macroblock (43_slice_fsm.md R371-R379, 46_mb_decoders.md R550-R562): the operations MBTYPE_I, MBTYPE_P, MBTYPE_B, SUBMB_P, SUBMB_B, and the work they queue. -/

namespace Sys2Proof.Machine

/-! ## The facts that a type gives -/

/-- The information of a macroblock in progress right after its type is known (43_slice_fsm.md R384). -/
def MbInfo.ofType (t : MbType) : MbInfo :=
  { MbInfo.fresh with
    mbType := t
    isIntra := t.isIntra
    isPcm := decide (t = .iPcm)
    isSkip := t.isSkip
    isDirect16x16 := decide (t = .b 0)
    skipFlag := t.isSkip
    direct8x8 := List.replicate 4 (decide (t = .bSkip) || decide (t = .b 0))
    cbpLuma := match t with
      | .i16x16 n => i16CbpLuma n
      | .iPcm => 15
      | .iNxN | .p _ | .b _ | .pSkip | .bSkip => 0
    cbpChroma := match t with
      | .i16x16 n => i16CbpChroma n
      | .iPcm => 2
      | .iNxN | .p _ | .b _ | .pSkip | .bSkip => 0
    coeffLuma := List.replicate 16 (if t = .iPcm then 16 else 0)
    coeffCb := List.replicate 4 (if t = .iPcm then 16 else 0)
    coeffCr := List.replicate 4 (if t = .iPcm then 16 else 0) }

/-- Keep the type. -/
def State.setMbType (s : State) (t : MbType) : State :=
  (s.setMb { s.mb with mbType := t }).setWk { s.wk with cur := MbInfo.ofType t, subIdx := 0 }

/-! ## The work of a macroblock -/

/-- The residual blocks of the luma of an inter or Intra_16x16 macroblock (46_mb_decoders.md R553, R562). -/
def lumaTasks (t8 : Bool) : List Task :=
  if t8 then (List.range 4).map .luma8x8 else (List.range 16).map .luma4x4

/-- The chroma of a component: DC, then the four blocks (R562). -/
def chromaTasks (c : Nat) : List Task := .chromaDc c :: (List.range 4).map (.chromaAc c)

/-- The chroma of an intra macroblock (R556). -/
def intraChromaTasks : List Task := .chromaPred 1 :: chromaTasks 1 ++ .chromaPred 2 :: chromaTasks 2

/-- The partitions of an inter macroblock and then its residual (R560, R562). -/
def interTasks (m : MbRec) : List Task :=
  (List.range (partsOf m.mbType m.subTypes).length).map .part ++ lumaTasks m.transform8x8 ++ chromaTasks 1 ++ chromaTasks 2

/-- The decoder of a type (R550), then the write-back. -/
def decodeTasks (m : MbRec) : List Task :=
  (match m.mbType with
    | .iNxN =>
      (if m.transform8x8 then (List.range 4).flatMap fun k => [.i8Mode k, .luma8x8 k]
       else (List.range 16).flatMap fun k => [.i4Mode k, .luma4x4 k]) ++ intraChromaTasks
    | .i16x16 t => [.op .i16Mode (i16Mode t), .lumaDc] ++ lumaTasks false ++ intraChromaTasks
    | .iPcm => []
    | .p _ | .b _ | .pSkip | .bSkip => interTasks m) ++ [.writeBack]

/-- `QP_Y` from `mb_qp_delta` (43_slice_fsm.md R378, R379). -/
def State.updQp (s : State) (delta : Int) : State :=
  s.setDs { s.ds with qpYPrev := s.ds.qpY, qpY := (s.ds.qpY + delta) % 52, prevMbQpDeltaNonZero := decide (delta ≠ 0) }

/-- The space of the sub-macroblock types of a type. -/
def subSpace : MbType → Space
  | .b _ => .subB
  | .iNxN | .i16x16 _ | .iPcm | .p _ | .pSkip | .bSkip => .subP

/-- What follows the type of a coded macroblock other than I_PCM (44_mb_syntax.md R430, R432): the sub-macroblock types, then the rest. -/
def typeTasks (t : MbType) : List Task :=
  (if t.numParts = 4 then List.replicate 4 (.fetch (subSpace t)) else []) ++ [.mbRest]

/-- A coded macroblock other than I_PCM. -/
def State.startMb (s : State) (t : MbType) : State := (s.setMbType t).push (typeTasks t)

/-- A skipped macroblock (43_slice_fsm.md R372): no residual, `mb_qp_delta` 0. -/
def State.startSkip (s : State) (t : MbType) : State :=
  let s1 := (s.setMbType t).updQp 0
  s1.push (decodeTasks s1.mb)

/-- The reconstruction of I_PCM (46_mb_decoders.md R551). -/
def MbRec.pcmRecon (m : MbRec) : MbRec :=
  { m with reconY := m.pcmLuma.map (fun (v : Nat) => (v : Int)),
           reconCb := (m.pcmChroma.take 64).map (fun (v : Nat) => (v : Int)),
           reconCr := (m.pcmChroma.drop 64).map (fun (v : Nat) => (v : Int)) }

/-- I_PCM (46_mb_decoders.md R551): the samples, the warning, no prediction. -/
def State.startPcm (s : State) : State :=
  let s1 := s.setMbType .iPcm
  s1.parse (readPcm s1) fun _ s2 =>
    (((s2.setMb s2.mb.pcmRecon).warnIpcm).updQp 0).push [.writeBack]

/-- A sub-macroblock type (44_mb_syntax.md R432). -/
def State.setSubType (s : State) (t : SubType) : State :=
  let i := s.wk.subIdx
  (s.setMb { s.mb with subTypes := s.mb.subTypes.set i t }).setWk
    { s.wk with subIdx := i + 1, cur := { s.wk.cur with direct8x8 := s.wk.cur.direct8x8.set i t.isDirect } }

/-- The rest of the macroblock layer, the QP update, and the decoder (43_slice_fsm.md R371 steps 2-3). -/
def State.mbRest (s : State) : State :=
  s.parse (readMbLayer s) fun _ s1 => (s1.updQp s1.mb.mbQpDelta).push (decodeTasks s1.mb)

/-! ## The acts between the kernels -/

/-- The mode of a 4x4 or 8x8 intra block, kept, and its operation queued (47_intra_pred.md R622). -/
def State.i4Mode (s : State) (k : Nat) : State :=
  let m := s.intraMode (blkX k) (blkY k) k mode4From mode4From
  (s.setWk { s.wk with blk := k, cur := { s.wk.cur with intra4x4Mode := s.wk.cur.intra4x4Mode.set k m } }).push [.op .i4Mode m]

def State.i8Mode (s : State) (k : Nat) : State :=
  let m := s.intraMode (8 * (k % 2)) (8 * (k / 2)) k (mode8From true) (mode8From false)
  (s.setWk { s.wk with blk := k, cur := { s.wk.cur with intra8x8Mode := s.wk.cur.intra8x8Mode.set k m } }).push [.op .i8Mode m]

/-- The kernel for a block of levels: all 0 (R739), only DC in a 4x4 block (R740), or the transform `full`. -/
def kernelOf (full : Nat) (lvl : List Int) : Nat :=
  if lvl.all fun v => decide (v = 0) then 7
  else if full ≠ 5 ∧ (lvl.drop 1).all fun v => decide (v = 0) then 8
  else full

/-- Prepare a block and queue its kernel and its reconstruction. -/
def State.blockKernel (s : State) (plane x y size qp listIdx full : Nat) (dcDone : Bool) (lvl : List Int) : State :=
  (s.setWk { s.wk with plane := plane, bx := x, by' := y, size := size, qp := qp, listIdx := listIdx,
                       dcDone := dcDone, lvl := lvl }).push
    [.op .xform (kernelOf full lvl), .op .xform 6]

/-- `QP_Y` as a number. -/
def State.qpLuma (s : State) : Nat := s.ds.qpY.toNat

/-- `QPc` of a component (48_interp_transform.md R725). -/
def State.qpChroma (s : State) (c : Nat) : Nat :=
  let off := if c = 1 then s.hdr.pps.chromaQpOffset else s.hdr.pps.secondChromaQpOffset
  (qpcOf (clip3 0 51 (s.ds.qpY + off))).toNat

/-- The scaling list of a component (48_interp_transform.md R722). -/
def State.listOf (s : State) (c : Nat) : Nat := if s.mb.mbType.isIntra then c else 3 + c

/-- Luma 4x4 block `k` (46_mb_decoders.md R553, R554, R562). -/
def State.luma4x4 (s : State) (k : Nat) : State :=
  let i16 := s.mb.mbType.isI16
  let lvl := if i16 then at0 s.wk.dcY (4 * (blkY k / 4) + blkX k / 4) :: s.mb.i16Ac.getD k [] else s.mb.luma4x4.getD k []
  s.blockKernel 0 (blkX k) (blkY k) 4 s.qpLuma (s.listOf 0) 0 i16 lvl

/-- Luma 8x8 block `k` (46_mb_decoders.md R555, R562). -/
def State.luma8x8 (s : State) (k : Nat) : State :=
  s.blockKernel 0 (8 * (k % 2)) (8 * (k / 2)) 8 s.qpLuma (if s.mb.mbType.isIntra then 0 else 1) 5 false (s.mb.luma8x8.getD k [])

/-- Prepare a DC transform and queue it. -/
def State.dcKernel (s : State) (qp listIdx kernel : Nat) (lvl : List Int) : State :=
  (s.setWk { s.wk with qp := qp, listIdx := listIdx, lvl := lvl }).push [.op .xform kernel]

/-- The Intra_16x16 luma DC (46_mb_decoders.md R553). -/
def State.lumaDc (s : State) : State := s.dcKernel s.qpLuma 0 2 s.mb.i16Dc

/-- The chroma DC of component `c` (46_mb_decoders.md R562). -/
def State.chromaDc (s : State) (c : Nat) : State :=
  s.dcKernel (s.qpChroma c) (s.listOf c) 3 (s.mb.chromaDc.getD (c - 1) [])

/-- Chroma block `k` of component `c` (46_mb_decoders.md R562). -/
def State.chromaAc (s : State) (c k : Nat) : State :=
  s.blockKernel c (4 * (k % 2)) (4 * (k / 2)) 4 (s.qpChroma c) (s.listOf c) 4 true
    (at0 s.wk.dcC k :: (s.mb.chromaAc.getD (c - 1) []).getD k [])

/-- The chroma mode's operation for a component (46_mb_decoders.md R556). -/
def State.chromaPred (s : State) (c : Nat) : State :=
  (s.setWk { s.wk with plane := c }).push [.op .chromaMode s.mb.intraChromaMode]

/-- The luma phase's operation for list `x` (46_mb_decoders.md R560 step 3). -/
def State.predLuma (s : State) (x : Nat) : State :=
  let s1 := s.setWk { s.wk with list := x }
  s1.push [.op .qpel (lumaPhaseOf s1.partMotion.mv)]

/-- The chroma phase's operation for list `x` and component `c`. -/
def State.predChroma (s : State) (x c : Nat) : State :=
  let s1 := s.setWk { s.wk with list := x, comp := c }
  s1.push [.op .cpel (chromaPhaseOf s1.partMotion.mv)]

/-! ## The operations: one for each macroblock type -/

/-! MBTYPE_I -/

def execINxN (s : State) : Host.Outcome State Fault Refusal := .next (s.startMb .iNxN)
def execI_16x16_0_0_0 (s : State) : Host.Outcome State Fault Refusal := .next (s.startMb (.i16x16 0))
def execI_16x16_1_0_0 (s : State) : Host.Outcome State Fault Refusal := .next (s.startMb (.i16x16 1))
def execI_16x16_2_0_0 (s : State) : Host.Outcome State Fault Refusal := .next (s.startMb (.i16x16 2))
def execI_16x16_3_0_0 (s : State) : Host.Outcome State Fault Refusal := .next (s.startMb (.i16x16 3))
def execI_16x16_0_1_0 (s : State) : Host.Outcome State Fault Refusal := .next (s.startMb (.i16x16 4))
def execI_16x16_1_1_0 (s : State) : Host.Outcome State Fault Refusal := .next (s.startMb (.i16x16 5))
def execI_16x16_2_1_0 (s : State) : Host.Outcome State Fault Refusal := .next (s.startMb (.i16x16 6))
def execI_16x16_3_1_0 (s : State) : Host.Outcome State Fault Refusal := .next (s.startMb (.i16x16 7))
def execI_16x16_0_2_0 (s : State) : Host.Outcome State Fault Refusal := .next (s.startMb (.i16x16 8))
def execI_16x16_1_2_0 (s : State) : Host.Outcome State Fault Refusal := .next (s.startMb (.i16x16 9))
def execI_16x16_2_2_0 (s : State) : Host.Outcome State Fault Refusal := .next (s.startMb (.i16x16 10))
def execI_16x16_3_2_0 (s : State) : Host.Outcome State Fault Refusal := .next (s.startMb (.i16x16 11))
def execI_16x16_0_0_1 (s : State) : Host.Outcome State Fault Refusal := .next (s.startMb (.i16x16 12))
def execI_16x16_1_0_1 (s : State) : Host.Outcome State Fault Refusal := .next (s.startMb (.i16x16 13))
def execI_16x16_2_0_1 (s : State) : Host.Outcome State Fault Refusal := .next (s.startMb (.i16x16 14))
def execI_16x16_3_0_1 (s : State) : Host.Outcome State Fault Refusal := .next (s.startMb (.i16x16 15))
def execI_16x16_0_1_1 (s : State) : Host.Outcome State Fault Refusal := .next (s.startMb (.i16x16 16))
def execI_16x16_1_1_1 (s : State) : Host.Outcome State Fault Refusal := .next (s.startMb (.i16x16 17))
def execI_16x16_2_1_1 (s : State) : Host.Outcome State Fault Refusal := .next (s.startMb (.i16x16 18))
def execI_16x16_3_1_1 (s : State) : Host.Outcome State Fault Refusal := .next (s.startMb (.i16x16 19))
def execI_16x16_0_2_1 (s : State) : Host.Outcome State Fault Refusal := .next (s.startMb (.i16x16 20))
def execI_16x16_1_2_1 (s : State) : Host.Outcome State Fault Refusal := .next (s.startMb (.i16x16 21))
def execI_16x16_2_2_1 (s : State) : Host.Outcome State Fault Refusal := .next (s.startMb (.i16x16 22))
def execI_16x16_3_2_1 (s : State) : Host.Outcome State Fault Refusal := .next (s.startMb (.i16x16 23))
def execIPcm (s : State) : Host.Outcome State Fault Refusal := .next s.startPcm
/-! MBTYPE_P -/

def execPL0_16x16 (s : State) : Host.Outcome State Fault Refusal := .next (s.startMb (.p 0))
def execPL0L0_16x8 (s : State) : Host.Outcome State Fault Refusal := .next (s.startMb (.p 1))
def execPL0L0_8x16 (s : State) : Host.Outcome State Fault Refusal := .next (s.startMb (.p 2))
def execP8x8 (s : State) : Host.Outcome State Fault Refusal := .next (s.startMb (.p 3))
def execP8x8ref0 (s : State) : Host.Outcome State Fault Refusal := .next (s.startMb (.p 4))
def execPINxN (s : State) : Host.Outcome State Fault Refusal := .next (s.startMb .iNxN)
def execPI_16x16_0_0_0 (s : State) : Host.Outcome State Fault Refusal := .next (s.startMb (.i16x16 0))
def execPI_16x16_1_0_0 (s : State) : Host.Outcome State Fault Refusal := .next (s.startMb (.i16x16 1))
def execPI_16x16_2_0_0 (s : State) : Host.Outcome State Fault Refusal := .next (s.startMb (.i16x16 2))
def execPI_16x16_3_0_0 (s : State) : Host.Outcome State Fault Refusal := .next (s.startMb (.i16x16 3))
def execPI_16x16_0_1_0 (s : State) : Host.Outcome State Fault Refusal := .next (s.startMb (.i16x16 4))
def execPI_16x16_1_1_0 (s : State) : Host.Outcome State Fault Refusal := .next (s.startMb (.i16x16 5))
def execPI_16x16_2_1_0 (s : State) : Host.Outcome State Fault Refusal := .next (s.startMb (.i16x16 6))
def execPI_16x16_3_1_0 (s : State) : Host.Outcome State Fault Refusal := .next (s.startMb (.i16x16 7))
def execPI_16x16_0_2_0 (s : State) : Host.Outcome State Fault Refusal := .next (s.startMb (.i16x16 8))
def execPI_16x16_1_2_0 (s : State) : Host.Outcome State Fault Refusal := .next (s.startMb (.i16x16 9))
def execPI_16x16_2_2_0 (s : State) : Host.Outcome State Fault Refusal := .next (s.startMb (.i16x16 10))
def execPI_16x16_3_2_0 (s : State) : Host.Outcome State Fault Refusal := .next (s.startMb (.i16x16 11))
def execPI_16x16_0_0_1 (s : State) : Host.Outcome State Fault Refusal := .next (s.startMb (.i16x16 12))
def execPI_16x16_1_0_1 (s : State) : Host.Outcome State Fault Refusal := .next (s.startMb (.i16x16 13))
def execPI_16x16_2_0_1 (s : State) : Host.Outcome State Fault Refusal := .next (s.startMb (.i16x16 14))
def execPI_16x16_3_0_1 (s : State) : Host.Outcome State Fault Refusal := .next (s.startMb (.i16x16 15))
def execPI_16x16_0_1_1 (s : State) : Host.Outcome State Fault Refusal := .next (s.startMb (.i16x16 16))
def execPI_16x16_1_1_1 (s : State) : Host.Outcome State Fault Refusal := .next (s.startMb (.i16x16 17))
def execPI_16x16_2_1_1 (s : State) : Host.Outcome State Fault Refusal := .next (s.startMb (.i16x16 18))
def execPI_16x16_3_1_1 (s : State) : Host.Outcome State Fault Refusal := .next (s.startMb (.i16x16 19))
def execPI_16x16_0_2_1 (s : State) : Host.Outcome State Fault Refusal := .next (s.startMb (.i16x16 20))
def execPI_16x16_1_2_1 (s : State) : Host.Outcome State Fault Refusal := .next (s.startMb (.i16x16 21))
def execPI_16x16_2_2_1 (s : State) : Host.Outcome State Fault Refusal := .next (s.startMb (.i16x16 22))
def execPI_16x16_3_2_1 (s : State) : Host.Outcome State Fault Refusal := .next (s.startMb (.i16x16 23))
def execPIPcm (s : State) : Host.Outcome State Fault Refusal := .next s.startPcm
def execPSkip (s : State) : Host.Outcome State Fault Refusal := .next (s.startSkip .pSkip)
/-! MBTYPE_B -/

def execBDirect16x16 (s : State) : Host.Outcome State Fault Refusal := .next (s.startMb (.b 0))
def execBL0_16x16 (s : State) : Host.Outcome State Fault Refusal := .next (s.startMb (.b 1))
def execBL1_16x16 (s : State) : Host.Outcome State Fault Refusal := .next (s.startMb (.b 2))
def execBBi_16x16 (s : State) : Host.Outcome State Fault Refusal := .next (s.startMb (.b 3))
def execBL0L0_16x8 (s : State) : Host.Outcome State Fault Refusal := .next (s.startMb (.b 4))
def execBL0L0_8x16 (s : State) : Host.Outcome State Fault Refusal := .next (s.startMb (.b 5))
def execBL1L1_16x8 (s : State) : Host.Outcome State Fault Refusal := .next (s.startMb (.b 6))
def execBL1L1_8x16 (s : State) : Host.Outcome State Fault Refusal := .next (s.startMb (.b 7))
def execBL0L1_16x8 (s : State) : Host.Outcome State Fault Refusal := .next (s.startMb (.b 8))
def execBL0L1_8x16 (s : State) : Host.Outcome State Fault Refusal := .next (s.startMb (.b 9))
def execBL1L0_16x8 (s : State) : Host.Outcome State Fault Refusal := .next (s.startMb (.b 10))
def execBL1L0_8x16 (s : State) : Host.Outcome State Fault Refusal := .next (s.startMb (.b 11))
def execBL0Bi_16x8 (s : State) : Host.Outcome State Fault Refusal := .next (s.startMb (.b 12))
def execBL0Bi_8x16 (s : State) : Host.Outcome State Fault Refusal := .next (s.startMb (.b 13))
def execBL1Bi_16x8 (s : State) : Host.Outcome State Fault Refusal := .next (s.startMb (.b 14))
def execBL1Bi_8x16 (s : State) : Host.Outcome State Fault Refusal := .next (s.startMb (.b 15))
def execBBiL0_16x8 (s : State) : Host.Outcome State Fault Refusal := .next (s.startMb (.b 16))
def execBBiL0_8x16 (s : State) : Host.Outcome State Fault Refusal := .next (s.startMb (.b 17))
def execBBiL1_16x8 (s : State) : Host.Outcome State Fault Refusal := .next (s.startMb (.b 18))
def execBBiL1_8x16 (s : State) : Host.Outcome State Fault Refusal := .next (s.startMb (.b 19))
def execBBiBi_16x8 (s : State) : Host.Outcome State Fault Refusal := .next (s.startMb (.b 20))
def execBBiBi_8x16 (s : State) : Host.Outcome State Fault Refusal := .next (s.startMb (.b 21))
def execB8x8 (s : State) : Host.Outcome State Fault Refusal := .next (s.startMb (.b 22))
def execBINxN (s : State) : Host.Outcome State Fault Refusal := .next (s.startMb .iNxN)
def execBI_16x16_0_0_0 (s : State) : Host.Outcome State Fault Refusal := .next (s.startMb (.i16x16 0))
def execBI_16x16_1_0_0 (s : State) : Host.Outcome State Fault Refusal := .next (s.startMb (.i16x16 1))
def execBI_16x16_2_0_0 (s : State) : Host.Outcome State Fault Refusal := .next (s.startMb (.i16x16 2))
def execBI_16x16_3_0_0 (s : State) : Host.Outcome State Fault Refusal := .next (s.startMb (.i16x16 3))
def execBI_16x16_0_1_0 (s : State) : Host.Outcome State Fault Refusal := .next (s.startMb (.i16x16 4))
def execBI_16x16_1_1_0 (s : State) : Host.Outcome State Fault Refusal := .next (s.startMb (.i16x16 5))
def execBI_16x16_2_1_0 (s : State) : Host.Outcome State Fault Refusal := .next (s.startMb (.i16x16 6))
def execBI_16x16_3_1_0 (s : State) : Host.Outcome State Fault Refusal := .next (s.startMb (.i16x16 7))
def execBI_16x16_0_2_0 (s : State) : Host.Outcome State Fault Refusal := .next (s.startMb (.i16x16 8))
def execBI_16x16_1_2_0 (s : State) : Host.Outcome State Fault Refusal := .next (s.startMb (.i16x16 9))
def execBI_16x16_2_2_0 (s : State) : Host.Outcome State Fault Refusal := .next (s.startMb (.i16x16 10))
def execBI_16x16_3_2_0 (s : State) : Host.Outcome State Fault Refusal := .next (s.startMb (.i16x16 11))
def execBI_16x16_0_0_1 (s : State) : Host.Outcome State Fault Refusal := .next (s.startMb (.i16x16 12))
def execBI_16x16_1_0_1 (s : State) : Host.Outcome State Fault Refusal := .next (s.startMb (.i16x16 13))
def execBI_16x16_2_0_1 (s : State) : Host.Outcome State Fault Refusal := .next (s.startMb (.i16x16 14))
def execBI_16x16_3_0_1 (s : State) : Host.Outcome State Fault Refusal := .next (s.startMb (.i16x16 15))
def execBI_16x16_0_1_1 (s : State) : Host.Outcome State Fault Refusal := .next (s.startMb (.i16x16 16))
def execBI_16x16_1_1_1 (s : State) : Host.Outcome State Fault Refusal := .next (s.startMb (.i16x16 17))
def execBI_16x16_2_1_1 (s : State) : Host.Outcome State Fault Refusal := .next (s.startMb (.i16x16 18))
def execBI_16x16_3_1_1 (s : State) : Host.Outcome State Fault Refusal := .next (s.startMb (.i16x16 19))
def execBI_16x16_0_2_1 (s : State) : Host.Outcome State Fault Refusal := .next (s.startMb (.i16x16 20))
def execBI_16x16_1_2_1 (s : State) : Host.Outcome State Fault Refusal := .next (s.startMb (.i16x16 21))
def execBI_16x16_2_2_1 (s : State) : Host.Outcome State Fault Refusal := .next (s.startMb (.i16x16 22))
def execBI_16x16_3_2_1 (s : State) : Host.Outcome State Fault Refusal := .next (s.startMb (.i16x16 23))
def execBIPcm (s : State) : Host.Outcome State Fault Refusal := .next s.startPcm
def execBSkip (s : State) : Host.Outcome State Fault Refusal := .next (s.startSkip .bSkip)
/-! SUBMB_P -/

def execSubPL0_8x8 (s : State) : Host.Outcome State Fault Refusal := .next (s.setSubType (.p 0))
def execSubPL0_8x4 (s : State) : Host.Outcome State Fault Refusal := .next (s.setSubType (.p 1))
def execSubPL0_4x8 (s : State) : Host.Outcome State Fault Refusal := .next (s.setSubType (.p 2))
def execSubPL0_4x4 (s : State) : Host.Outcome State Fault Refusal := .next (s.setSubType (.p 3))
/-! SUBMB_B -/

def execSubBDirect_8x8 (s : State) : Host.Outcome State Fault Refusal := .next (s.setSubType (.b 0))
def execSubBL0_8x8 (s : State) : Host.Outcome State Fault Refusal := .next (s.setSubType (.b 1))
def execSubBL1_8x8 (s : State) : Host.Outcome State Fault Refusal := .next (s.setSubType (.b 2))
def execSubBBi_8x8 (s : State) : Host.Outcome State Fault Refusal := .next (s.setSubType (.b 3))
def execSubBL0_8x4 (s : State) : Host.Outcome State Fault Refusal := .next (s.setSubType (.b 4))
def execSubBL0_4x8 (s : State) : Host.Outcome State Fault Refusal := .next (s.setSubType (.b 5))
def execSubBL1_8x4 (s : State) : Host.Outcome State Fault Refusal := .next (s.setSubType (.b 6))
def execSubBL1_4x8 (s : State) : Host.Outcome State Fault Refusal := .next (s.setSubType (.b 7))
def execSubBBi_8x4 (s : State) : Host.Outcome State Fault Refusal := .next (s.setSubType (.b 8))
def execSubBBi_4x8 (s : State) : Host.Outcome State Fault Refusal := .next (s.setSubType (.b 9))
def execSubBL0_4x4 (s : State) : Host.Outcome State Fault Refusal := .next (s.setSubType (.b 10))
def execSubBL1_4x4 (s : State) : Host.Outcome State Fault Refusal := .next (s.setSubType (.b 11))
def execSubBBi_4x4 (s : State) : Host.Outcome State Fault Refusal := .next (s.setSubType (.b 12))

end Sys2Proof.Machine
end

