-- ==== Sys2Proof/Machine/Slice.lean ====
section
/-! DEFINITION. The slice state machine and the macroblock loop (43_slice_fsm.md R360-R365), and the operations SLICETYPE. -/

namespace Sys2Proof.Machine

/-- `STATUS.FSM` takes a state. -/
def State.setFsm (s : State) (f : Fsm) : State := s.setCsr { s.csr with fsm := f }

/-- Change the header of the slice in progress. -/
def State.updSl (s : State) (f : SliceHdr → SliceHdr) : State := s.setSl (s.sl.map f)

/-! ## Header, allocation, lists, start -/

/-- The list modifications of list `x` (49_reflist.md R795), when its flag is 1. -/
def modTasks (flag : Bool) (x : Nat) : List Task := if flag then [.rplmStart x, .fetch .rplm] else []

/-- What follows a parsed header (43_slice_fsm.md R362-R364). -/
def headerTasks (h : SliceHdr) (alloc : Bool) : List Task :=
  (if alloc then [.alloc] else [])
    ++ (if h.st = 2 then [] else .lists :: modTasks h.modFlag0 0 ++ modTasks h.modFlag1 1) ++ [.initSlice]

/-- After the header (42_slice_header.md R308, 43_slice_fsm.md R361). -/
def State.afterHeader (s : State) (h : SliceHdr) : State :=
  let s1 := s.setSl (some h)
  if h.st = 3 ∨ h.st = 4 then s1.raise .unsupported
  else if h.redundantPicCnt > 0 then s1.sliceEnd
  else (s1.setFsm .headerParsed).push (headerTasks h s.au.curFrame.isNone)

/-- The rest of the slice header. -/
def State.sliceHeader (s : State) : State := s.parse (readHeader s s.hdr) fun h s1 => s1.afterHeader h

/-- Frame allocation (43_slice_fsm.md R362): the handle, the IDR's empty pools (49_reflist.md R771 step 1), the POC, the frame (log entry 19). -/
def State.alloc (s : State) : State :=
  match s.freeHandle with
  | none => s.raise .noFrame
  | some h =>
    (if s.hdr.idr then s.emptyPools else s).push [.op .pocType s.hdr.sps.pocType, .allocFinish h]

/-- Fill the frame, then build the slice-group map (43_slice_fsm.md R366; one group needs no process). -/
def State.allocFinish (s : State) (h : Nat) : State :=
  let p := s.hdr.pps
  (s.fillFrame h).push (if p.numSliceGroupsMinus1 > 0 then [.op .sgMap p.mapType] else [])

/-- The `DBK` record of a slice (43_slice_fsm.md R387). -/
def dbkSliceOf (n : Nat) (h : SliceHdr) : DbkSlice :=
  ⟨n, h.sliceType, h.disableDeblockingIdc, h.alphaOffsetDiv2 * 2, h.betaOffsetDiv2 * 2, h.pps.chromaQpOffset,
   h.pps.secondChromaQpOffset⟩

/-- `DS` at the start of a slice (43_slice_fsm.md R364, R365). -/
def dsOf (n : Nat) (h : SliceHdr) : Ds where
  qpY := h.sliceQpY
  qpYPrev := h.sliceQpY
  currMbAddr := h.firstMb
  prevMbQpDeltaNonZero := false
  skipRunLeft := 0
  prevMbSkipped := false
  mbCount := 0
  sliceNum := n
  moreData := true
  mbSkipFlag := false

/-- The start of CABAC (43_slice_fsm.md R364): alignment, contexts, engine. -/
def startCabac (h : SliceHdr) : Rd Unit := do
  let _ ← readBits ((8 - (← get).br.cursor % 8) % 8)
  modify fun p =>
    { p with cabac := p.cabac.startContexts (initContexts (if h.st = 2 then 0 else h.cabacInitIdc + 1) h.sliceQpY) }
  initEngine

/-- `DS`, the slice's number and its deblocking record (43_slice_fsm.md R364). -/
def State.startDs (s : State) : State :=
  let n := s.au.sliceCount
  let s1 := (s.setDs (dsOf n s.hdr)).setAu { s.au with sliceCount := n + 1 }
  s1.updDbk s1.cur fun d => { d with slices := d.slices ++ [dbkSliceOf n s.hdr] }

/-- The start of the macroblock loop. -/
def State.startLoop (s : State) : State := (s.setFsm .decoding).push [.loopTop]

/-- 43_slice_fsm.md R364. -/
def State.initSlice (s : State) : State :=
  if s.hdr.pps.cabac then s.startDs.parse (startCabac s.hdr) fun _ s1 => s1.startLoop
  else s.startDs.startLoop

/-! ## The macroblock loop (43_slice_fsm.md R365) -/

/-- The slice has only intra macroblocks. -/
def State.isISlice (s : State) : Bool := decide (s.hdr.st = 2)

/-- The top of the loop. -/
def State.loopTop (s : State) : State :=
  if s.isISlice then s.push [.mbStart false, .loopEnd]
  else if s.hdr.pps.cabac then s.push [.fetch (.desc (.ae .mbSkipFlag)), .skipFlag]
  else s.push [.fetch (.desc .ue), .skipRun]

/-- `mb_skip_run` is read. -/
def State.skipRun (s : State) : State :=
  let run := s.wk.elem.toNat
  (s.setDs { s.ds with skipRunLeft := run }).push [.skipLoop run]

/-- A turn of the skip loop, or what follows it; `run` is `mb_skip_run`. -/
def State.skipLoop (s : State) (run : Nat) : State :=
  if s.ds.skipRunLeft > 0 then s.push [.mbStart true, .skipNext run]
  else
    let more := if run > 0 then s.br.moreRbspData else s.ds.moreData
    (s.setDs { s.ds with prevMbSkipped := decide (run > 0), moreData := more }).push
      (if more then [.mbStart false, .loopEnd] else [.loopEnd])

/-- The next macroblock address (43_slice_fsm.md R367); none ends the slice. -/
def State.nextMb (s : State) (ts : List Task) : State :=
  match nextMbAddress s.au.map s.hdr.sps.sizeInMbs s.ds.currMbAddr with
  | none => s.sliceEnd
  | some a => (s.setDs { s.ds with currMbAddr := a }).push ts

/-- After a skipped macroblock of a run. -/
def State.skipNext (s : State) (run : Nat) : State :=
  (s.setDs { s.ds with skipRunLeft := s.ds.skipRunLeft - 1 }).nextMb [.skipLoop run]

/-- `mb_skip_flag` is read. -/
def State.skipFlag (s : State) : State :=
  let f := decide (s.wk.elem ≠ 0)
  (s.setDs { s.ds with mbSkipFlag := f, moreData := !f }).push [.mbStart f, .loopEnd]

/-- The space of `mb_type` by slice type (44_mb_syntax.md R440-R443). -/
def State.mbSpace (s : State) : Space := if s.hdr.st = 0 then .mbP else if s.hdr.st = 1 then .mbB else .mbI

/-- Steps 1-2 of `DecodeMb` (43_slice_fsm.md R371, R372). -/
def State.mbStart (s : State) (skipped : Bool) : State :=
  if (s.mbInfoAt s.ds.currMbAddr).decoded then s.raise .invalid
  else
    ((s.setMb MbRec.cleared).setWk { s.wk with cur := MbInfo.fresh, motDone := List.replicate 16 false }).push
      [if skipped then .fetch (if s.hdr.st = 1 then .skipB else .skipP) else .fetch s.mbSpace]

/-- After a macroblock. -/
def State.loopEnd (s : State) : State :=
  if s.hdr.pps.cabac then
    (s.setDs { s.ds with prevMbSkipped := if s.isISlice then s.ds.prevMbSkipped else s.ds.mbSkipFlag }).push
      [.fetch (.desc (.ae .endOfSliceFlag)), .endFlag]
  else
    let s1 := s.setDs { s.ds with moreData := s.br.moreRbspData }
    if s.br.moreRbspData then s1.push [.advance] else s1.sliceEnd

/-- `end_of_slice_flag` is read. -/
def State.endFlag (s : State) : State :=
  if s.wk.elem = 0 then (s.setDs { s.ds with moreData := true }).push [.advance] else s.sliceEnd

/-! ## The operations: each keeps the slice type -/

def execSliceP (s : State) : Host.Outcome State Fault Refusal := .next (s.updSl fun h => { h with sliceType := 0 })
def execSliceB (s : State) : Host.Outcome State Fault Refusal := .next (s.updSl fun h => { h with sliceType := 1 })
def execSliceI (s : State) : Host.Outcome State Fault Refusal := .next (s.updSl fun h => { h with sliceType := 2 })
def execSliceSp (s : State) : Host.Outcome State Fault Refusal := .next (s.updSl fun h => { h with sliceType := 3 })
def execSliceSi (s : State) : Host.Outcome State Fault Refusal := .next (s.updSl fun h => { h with sliceType := 4 })
def execSlicePAll (s : State) : Host.Outcome State Fault Refusal := .next (s.updSl fun h => { h with sliceType := 5 })
def execSliceBAll (s : State) : Host.Outcome State Fault Refusal := .next (s.updSl fun h => { h with sliceType := 6 })
def execSliceIAll (s : State) : Host.Outcome State Fault Refusal := .next (s.updSl fun h => { h with sliceType := 7 })
def execSliceSpAll (s : State) : Host.Outcome State Fault Refusal := .next (s.updSl fun h => { h with sliceType := 8 })
def execSliceSiAll (s : State) : Host.Outcome State Fault Refusal := .next (s.updSl fun h => { h with sliceType := 9 })

end Sys2Proof.Machine
end

