-- ==== Sys2Proof/Machine/Desc.lean ====
section
/-! DEFINITION. The operations DESC: one syntax element read with its descriptor (30_encoding.md R141, 40_bitreader_nal.md R214-R217, 44_mb_syntax.md R452, R463-R466, 45_cabac_syntax.md R507). -/

namespace Sys2Proof.Machine

/-- Keep the value of an element. -/
def State.setElem (s : State) (v : Int) (v2 : Nat) : State := s.setWk { s.wk with elem := v, elem2 := v2 }

/-- Read an element and keep its value. -/
def State.readElem (s : State) (r : Rd Int) : State := s.parse r fun v s1 => s1.setElem v 0

/-- A reader of numbers as a reader of values. -/
def natRd (r : Rd Nat) : Rd Int := do return ((← r : Nat) : Int)

/-- The partition with numbers `p`, `s` of the macroblock in progress. -/
def State.partAt (st : State) (p s : Nat) : Part :=
  ((partsOf st.mb.mbType st.mb.subTypes).find? fun q => decide (q.p = p) && decide (q.s = s)).getD Part.whole

/-- The partition `p` that a reference index is coded for. -/
def State.refPartAt (s : State) (p : Nat) : Part :=
  ((refParts s.mb.mbType s.mb.subTypes).find? fun q => decide (q.p = p)).getD Part.whole

/-- The reader of a `ce(v)` element: its value, with TrailingOnes as second value for `coeff_token`. -/
def readCe : CeElem → Rd (Int × Nat)
  | .coeffToken nC => do
    let (t1, total) ← readCoeffToken nC
    return ((total : Nat), t1)
  | .levelPrefix => do return (((← readLevelPrefix) : Nat), 0)
  | .levelSuffix n => do return (((← readBits n) : Nat), 0)
  | .totalZeros dc t => do return (((← readTotalZeros dc t) : Nat), 0)
  | .runBefore z => do return (((← readRunBefore z) : Nat), 0)

/-- The reader of an `ae(v)` element (45_cabac_syntax.md R507). -/
def readAe (s : State) : AeElem → Rd Int
  | .mbSkipFlag => natRd (aeMbSkipFlag s)
  | .mbType => natRd (aeMbType s)
  | .subMbType => natRd (aeSubMbType s)
  | .transformSize8x8Flag => natRd (aeTransform8x8 s)
  | .prevIntraPredModeFlag => natRd (engine.decision 68)
  | .remIntraPredMode => natRd (decRemIntra engine)
  | .intraChromaPredMode => natRd (aeIntraChroma s)
  | .codedBlockPattern => natRd (aeCbp s)
  | .refIdx x p => natRd (aeRefIdx s x (s.refPartAt p))
  | .mvd x p sub c => aeMvd s x (s.partAt p sub) c
  | .mbQpDelta => aeQpDelta s
  | .endOfSliceFlag => natRd engine.terminate
  | .codedBlockFlag cat plane blk => natRd (engine.decision (s.cbfCtx s.wk.cur cat plane blk))
  | .significantCoeffFlag cat i => natRd (decSig engine cat i)
  | .lastSignificantCoeffFlag cat i => natRd (decLast engine cat i)
  | .coeffAbsLevelMinus1 cat gt1 eq1 => decAbsLevel engine cat gt1 eq1
  | .coeffSignFlag => natRd engine.bypass

/-! ## The operations -/

def execDescU (n : Nat) (s : State) : Host.Outcome State Fault Refusal := .next (s.readElem (natRd (readBits n)))
def execDescF (n : Nat) (s : State) : Host.Outcome State Fault Refusal := .next (s.readElem (natRd (readBits n)))
def execDescUv (n : Nat) (s : State) : Host.Outcome State Fault Refusal := .next (s.readElem (natRd (readBits n)))
def execDescUe (s : State) : Host.Outcome State Fault Refusal := .next (s.readElem (natRd readUe))
def execDescSe (s : State) : Host.Outcome State Fault Refusal := .next (s.readElem readSe)
def execDescTe (cMax : Nat) (s : State) : Host.Outcome State Fault Refusal := .next (s.readElem (natRd (readTe cMax)))
def execDescMe (intra : Bool) (s : State) : Host.Outcome State Fault Refusal := .next (s.readElem (natRd (readMe intra)))
def execDescCe (e : CeElem) (s : State) : Host.Outcome State Fault Refusal :=
  .next (s.parse (readCe e) fun v s1 => s1.setElem v.1 v.2)
def execDescAe (e : AeElem) (s : State) : Host.Outcome State Fault Refusal := .next (s.readElem (readAe s e))

end Sys2Proof.Machine
end

