-- ==== Sys2Proof/Machine/Nal.lean ====
section
/-! DEFINITION. NAL units (40_bitreader_nal.md R210, R211, R220; 30_encoding.md R145, R146): the operations NALHDR. -/

namespace Sys2Proof.Machine

/-- The payload bytes of the NAL unit: those after the header byte (40_bitreader_nal.md R210, R220). -/
def State.payload (s : State) : List Byte :=
  (List.range (s.csr.nalLen.toNat - 1)).map fun i => s.byteAt (s.csr.nalAddr.toNat + 1 + i)

/-- Keep the header and build the RBSP (40_bitreader_nal.md R220 steps 4-5). -/
def State.startNal (s : State) (type : Nat) (refIdc : BitVec 2) : State :=
  (s.setBr (Br.ofRbsp (stripEpb 0 s.payload))).setWk { s.wk with nalType := type, nalRefIdc := refIdc.toNat }

/-- Pass 1 of a slice header and the rest (42_slice_header.md R300). -/
def sliceTasks : List Task := [.fetch (.desc .ue), .firstMb, .fetch .sliceType, .sliceHeader]

/-- A slice NAL unit (43_slice_fsm.md R361). -/
def State.startSlice (s : State) (type : Nat) (refIdc : BitVec 2) : State :=
  let s1 := (s.startNal type refIdc).setFsm .created
  if s1.au.failed then s1.sliceEnd
  else
    (s1.setSl (some { SliceHdr.empty with nalType := type, nalRefIdc := refIdc.toNat })).push sliceTasks

/-- `first_mb_in_slice` is read. -/
def State.firstMb (s : State) : State := s.updSl fun h => { h with firstMb := s.wk.elem.toNat }

/-- A sequence parameter set (41_parameter_sets.md R240). -/
def State.nalSps (s : State) (refIdc : BitVec 2) : State :=
  (s.startNal 7 refIdc).parse readSps fun p s1 => s1.storeSps p

/-- A picture parameter set (41_parameter_sets.md R250). -/
def State.nalPps (s : State) (refIdc : BitVec 2) : State :=
  let s1 := s.startNal 8 refIdc
  s1.parse (readPps s1) fun p s2 => s2.storePps p

/-! ## The operations -/

def execNalType0 (refIdc : BitVec 2) (s : State) : Host.Outcome State Fault Refusal := .next (s.startNal 0 refIdc)
def execNalSlice (refIdc : BitVec 2) (s : State) : Host.Outcome State Fault Refusal := .next (s.startSlice 1 refIdc)
def execNalType2 (refIdc : BitVec 2) (s : State) : Host.Outcome State Fault Refusal := .next (s.startNal 2 refIdc)
def execNalType3 (refIdc : BitVec 2) (s : State) : Host.Outcome State Fault Refusal := .next (s.startNal 3 refIdc)
def execNalType4 (refIdc : BitVec 2) (s : State) : Host.Outcome State Fault Refusal := .next (s.startNal 4 refIdc)
def execNalIdr (refIdc : BitVec 2) (s : State) : Host.Outcome State Fault Refusal := .next (s.startSlice 5 refIdc)
def execNalType6 (refIdc : BitVec 2) (s : State) : Host.Outcome State Fault Refusal := .next (s.startNal 6 refIdc)
def execNalSps (refIdc : BitVec 2) (s : State) : Host.Outcome State Fault Refusal := .next (s.nalSps refIdc)
def execNalPps (refIdc : BitVec 2) (s : State) : Host.Outcome State Fault Refusal := .next (s.nalPps refIdc)
def execNalType9 (refIdc : BitVec 2) (s : State) : Host.Outcome State Fault Refusal := .next (s.startNal 9 refIdc)
def execNalType10 (refIdc : BitVec 2) (s : State) : Host.Outcome State Fault Refusal := .next (s.startNal 10 refIdc)
def execNalType11 (refIdc : BitVec 2) (s : State) : Host.Outcome State Fault Refusal := .next (s.startNal 11 refIdc)
def execNalType12 (refIdc : BitVec 2) (s : State) : Host.Outcome State Fault Refusal := .next (s.startNal 12 refIdc)
def execNalType13 (refIdc : BitVec 2) (s : State) : Host.Outcome State Fault Refusal := .next (s.startNal 13 refIdc)
def execNalType14 (refIdc : BitVec 2) (s : State) : Host.Outcome State Fault Refusal := .next (s.startNal 14 refIdc)
def execNalType15 (refIdc : BitVec 2) (s : State) : Host.Outcome State Fault Refusal := .next (s.startNal 15 refIdc)
def execNalType16 (refIdc : BitVec 2) (s : State) : Host.Outcome State Fault Refusal := .next (s.startNal 16 refIdc)
def execNalType17 (refIdc : BitVec 2) (s : State) : Host.Outcome State Fault Refusal := .next (s.startNal 17 refIdc)
def execNalType18 (refIdc : BitVec 2) (s : State) : Host.Outcome State Fault Refusal := .next (s.startNal 18 refIdc)
def execNalType19 (refIdc : BitVec 2) (s : State) : Host.Outcome State Fault Refusal := .next (s.startNal 19 refIdc)
def execNalType20 (refIdc : BitVec 2) (s : State) : Host.Outcome State Fault Refusal := .next (s.startNal 20 refIdc)
def execNalType21 (refIdc : BitVec 2) (s : State) : Host.Outcome State Fault Refusal := .next (s.startNal 21 refIdc)
def execNalType22 (refIdc : BitVec 2) (s : State) : Host.Outcome State Fault Refusal := .next (s.startNal 22 refIdc)
def execNalType23 (refIdc : BitVec 2) (s : State) : Host.Outcome State Fault Refusal := .next (s.startNal 23 refIdc)
def execNalType24 (refIdc : BitVec 2) (s : State) : Host.Outcome State Fault Refusal := .next (s.startNal 24 refIdc)
def execNalType25 (refIdc : BitVec 2) (s : State) : Host.Outcome State Fault Refusal := .next (s.startNal 25 refIdc)
def execNalType26 (refIdc : BitVec 2) (s : State) : Host.Outcome State Fault Refusal := .next (s.startNal 26 refIdc)
def execNalType27 (refIdc : BitVec 2) (s : State) : Host.Outcome State Fault Refusal := .next (s.startNal 27 refIdc)
def execNalType28 (refIdc : BitVec 2) (s : State) : Host.Outcome State Fault Refusal := .next (s.startNal 28 refIdc)
def execNalType29 (refIdc : BitVec 2) (s : State) : Host.Outcome State Fault Refusal := .next (s.startNal 29 refIdc)
def execNalType30 (refIdc : BitVec 2) (s : State) : Host.Outcome State Fault Refusal := .next (s.startNal 30 refIdc)
def execNalType31 (refIdc : BitVec 2) (s : State) : Host.Outcome State Fault Refusal := .next (s.startNal 31 refIdc)
/-- `forbidden_zero_bit = 1`: the NAL unit is ignored and `E_INVALID` recorded (40_bitreader_nal.md R220 step 4); the other bits of the byte have no effect. -/
def execNalForbidden (_rest : BitVec 7) (s : State) : Host.Outcome State Fault Refusal := .next (s.record .invalid)

end Sys2Proof.Machine
end

