-- ==== Sys2Proof/Machine/Commands.lean ====
section
/-! DEFINITION. The operations CMD: SRST (70_reset_and_hazards.md R851), NAL (40_bitreader_nal.md R220, 60_exceptions.md R830), AU_END (43_slice_fsm.md R390), RELEASE (10_state.md R72). -/

namespace Sys2Proof.Machine

/-! ## SRST -/

/-- The reset of a machine in use (70_reset_and_hazards.md R850, R851; `MB` by log entry 4): what reset does not touch is the memory, the frames' motion, the parameters, and the host's own state. -/
def State.softReset (s : State) : State :=
  { State.reset with
    params := s.params
    fs := s.fs.map fun f => { Frame.free with motion := f.motion }
    dbk := s.dbk.map fun _ => Dbk.empty
    mem := s.mem
    host := s.host
    bus := s.bus
    freeCtr := s.freeCtr }

/-! ## NAL -/

/-- The start of an access unit (60_exceptions.md R830); every macroblock is not decoded then (10_state.md R48). -/
def State.startAu (s : State) : State :=
  if s.au.ended then (s.setCsr s.csr.clearForAu).setAu { s.au with ended := false, mbInfo := [] } else s

/-- The submission checks (40_bitreader_nal.md R220 steps 2-3). -/
def State.submission (s : State) : Option ErrCode :=
  let a := s.csr.nalAddr.toNat
  let l := s.csr.nalLen.toNat
  if l > s.params.maxNalBytes ∨ a + l > 2 ^ s.params.addrW then some .unsupported
  else if l = 0 then some .bits
  else none

/-- The NAL command up to the fetch of its header byte. -/
def State.startNalCmd (s : State) : State :=
  let s1 := s.setBusy.startAu
  match s1.submission with
  | some e => (s1.record e).setTasks [.nalDone]
  | none => s1.setTasks [.fetch .nalHdr, .nalDone]

/-! ## AU_END -/

/-- The marking of the picture (49_reflist.md R770, R771, R781), with `wk` ready for its operations. -/
def State.startMarking (s : State) : State :=
  let h := s.first
  let s1 := s.setWk { s.wk with curLong := false, mmcoLeft := h.mmcos }
  if h.nalRefIdc = 0 then s1
  else if h.idr then s1.markIdr
  else if h.adaptiveMarking then s1.push [.fetch .mmco]
  else (State.slidingWindow s1.fs.length s1).finishMarking

/-- AU_END up to the marking (43_slice_fsm.md R390 steps 1-4). A failed access unit leaves the pools that the last successful one left (60_exceptions.md R824). -/
def State.startAuEnd (s : State) : State :=
  let s1 := s.setBusy.setTasks [.auEndFinish]
  if s1.au.failed then
    let s2 := (s1.setCsr { s1.csr with auErr := true }).restorePools
    match s2.au.curFrame with
    | none => s2
    | some h => s2.updFrame h fun f => { f with inUse := false }
  else match s1.au.curFrame with
    | none => s1
    | some _ => s1.startMarking

/-- Free every frame that is unmarked and not held (43_slice_fsm.md R390 step 4). -/
def freeUnused (fs : List Frame) : List Frame :=
  fs.map fun f => if f.mark = .unused ∧ !f.held then { f with inUse := false } else f

/-- The output of the picture in frame `h` after its marking (43_slice_fsm.md R390 step 4). 10_state.md R67: OUT_FRAME shows the handle in bits 7:0 and its other bits are 0; of a handle above 255, which NUM_FRAMES does not rule out, it shows the low eight bits, and the whole handle is kept beside it: the model's choice (log entry 40). -/
def State.outputFrame (s : State) (h : Nat) : State :=
  let f := s.frame h
  let s1 := (s.setAu (pocHistory (Config.freeInt s.freeCtr) (Config.freeInt (s.freeCtr + 1)) s.au s.first f)).drawn 2
  let s2 := s1.updFrame h fun f => { f with held := true }
  let s3 := s2.setCsr { s2.csr with outFrame := BitVec.ofNat 32 (h % 256), outHandle := h, outPoc := BitVec.ofInt 32 f.poc, frameValid := true }
  (s3.setFs (freeUnused s3.fs)).updDbk h fun d => { d with handedOver := true }

/-- Step 5 of 43_slice_fsm.md R390. -/
def State.clearAu (s : State) : State :=
  ((s.setAu { s.au with curFrame := none, failed := false, sliceCount := 0, nalIndex := 0, firstSlice := none, ended := true }).setCsr
    { s.csr with fsm := .idle, busy := false }).setSavedPools none

/-- The end of AU_END. -/
def State.auEndFinish (s : State) : State :=
  match s.au.curFrame with
  | none => s.clearAu
  | some h => if s.au.failed then s.clearAu else (s.outputFrame h).clearAu

/-! ## RELEASE -/

/-- 10_state.md R72. -/
def State.release (s : State) : State :=
  let h := s.csr.relHandle.toNat
  if h ≥ s.params.numFrames then s.setCmdErr true
  else s.updFrame h fun f =>
    { f with held := false,
             inUse := if f.mark = .unused ∧ s.au.curFrame ≠ some h then false else f.inUse }

/-! ## The operations -/

def execSrst (s : State) : Host.Outcome State Fault Refusal := .next s.softReset
def execNal (s : State) : Host.Outcome State Fault Refusal := .next s.startNalCmd
def execAuEnd (s : State) : Host.Outcome State Fault Refusal := .next s.startAuEnd
def execRelease (s : State) : Host.Outcome State Fault Refusal := .next s.release

end Sys2Proof.Machine
end

