-- ==== Sys2Proof/Machine/Dispatch.lean ====
section
/-! DEFINITION. One arm per operation. -/

namespace Sys2Proof.Machine

/-- What an operation does. -/
def exec (i : Instr) (s : State) : Host.Outcome State Fault Refusal :=
  match i with
  | .srst => Sys2Proof.Machine.execSrst s
  | .nal => Sys2Proof.Machine.execNal s
  | .auEnd => Sys2Proof.Machine.execAuEnd s
  | .release => Sys2Proof.Machine.execRelease s
  | .descU n => Sys2Proof.Machine.execDescU n s
  | .descF n => Sys2Proof.Machine.execDescF n s
  | .descUv n => Sys2Proof.Machine.execDescUv n s
  | .descUe => Sys2Proof.Machine.execDescUe s
  | .descSe => Sys2Proof.Machine.execDescSe s
  | .descTe cMax => Sys2Proof.Machine.execDescTe cMax s
  | .descMe intra => Sys2Proof.Machine.execDescMe intra s
  | .descCe e => Sys2Proof.Machine.execDescCe e s
  | .descAe e => Sys2Proof.Machine.execDescAe e s
  | .nalType0 refIdc => Sys2Proof.Machine.execNalType0 refIdc s
  | .nalSlice refIdc => Sys2Proof.Machine.execNalSlice refIdc s
  | .nalType2 refIdc => Sys2Proof.Machine.execNalType2 refIdc s
  | .nalType3 refIdc => Sys2Proof.Machine.execNalType3 refIdc s
  | .nalType4 refIdc => Sys2Proof.Machine.execNalType4 refIdc s
  | .nalIdr refIdc => Sys2Proof.Machine.execNalIdr refIdc s
  | .nalType6 refIdc => Sys2Proof.Machine.execNalType6 refIdc s
  | .nalSps refIdc => Sys2Proof.Machine.execNalSps refIdc s
  | .nalPps refIdc => Sys2Proof.Machine.execNalPps refIdc s
  | .nalType9 refIdc => Sys2Proof.Machine.execNalType9 refIdc s
  | .nalType10 refIdc => Sys2Proof.Machine.execNalType10 refIdc s
  | .nalType11 refIdc => Sys2Proof.Machine.execNalType11 refIdc s
  | .nalType12 refIdc => Sys2Proof.Machine.execNalType12 refIdc s
  | .nalType13 refIdc => Sys2Proof.Machine.execNalType13 refIdc s
  | .nalType14 refIdc => Sys2Proof.Machine.execNalType14 refIdc s
  | .nalType15 refIdc => Sys2Proof.Machine.execNalType15 refIdc s
  | .nalType16 refIdc => Sys2Proof.Machine.execNalType16 refIdc s
  | .nalType17 refIdc => Sys2Proof.Machine.execNalType17 refIdc s
  | .nalType18 refIdc => Sys2Proof.Machine.execNalType18 refIdc s
  | .nalType19 refIdc => Sys2Proof.Machine.execNalType19 refIdc s
  | .nalType20 refIdc => Sys2Proof.Machine.execNalType20 refIdc s
  | .nalType21 refIdc => Sys2Proof.Machine.execNalType21 refIdc s
  | .nalType22 refIdc => Sys2Proof.Machine.execNalType22 refIdc s
  | .nalType23 refIdc => Sys2Proof.Machine.execNalType23 refIdc s
  | .nalType24 refIdc => Sys2Proof.Machine.execNalType24 refIdc s
  | .nalType25 refIdc => Sys2Proof.Machine.execNalType25 refIdc s
  | .nalType26 refIdc => Sys2Proof.Machine.execNalType26 refIdc s
  | .nalType27 refIdc => Sys2Proof.Machine.execNalType27 refIdc s
  | .nalType28 refIdc => Sys2Proof.Machine.execNalType28 refIdc s
  | .nalType29 refIdc => Sys2Proof.Machine.execNalType29 refIdc s
  | .nalType30 refIdc => Sys2Proof.Machine.execNalType30 refIdc s
  | .nalType31 refIdc => Sys2Proof.Machine.execNalType31 refIdc s
  | .nalForbidden rest => Sys2Proof.Machine.execNalForbidden rest s
  | .rplmSub v => Sys2Proof.Machine.execRplmSub v s
  | .rplmAdd v => Sys2Proof.Machine.execRplmAdd v s
  | .rplmLong v => Sys2Proof.Machine.execRplmLong v s
  | .rplmEnd => Sys2Proof.Machine.execRplmEnd s
  | .mmcoEnd => Sys2Proof.Machine.execMmcoEnd s
  | .mmcoShortUnused diff => Sys2Proof.Machine.execMmcoShortUnused diff s
  | .mmcoLongUnused num => Sys2Proof.Machine.execMmcoLongUnused num s
  | .mmcoShortToLong diff idx => Sys2Proof.Machine.execMmcoShortToLong diff idx s
  | .mmcoMaxLongIdx plus1 => Sys2Proof.Machine.execMmcoMaxLongIdx plus1 s
  | .mmcoAllUnused => Sys2Proof.Machine.execMmcoAllUnused s
  | .mmcoCurToLong idx => Sys2Proof.Machine.execMmcoCurToLong idx s
  | .sliceP => Sys2Proof.Machine.execSliceP s
  | .sliceB => Sys2Proof.Machine.execSliceB s
  | .sliceI => Sys2Proof.Machine.execSliceI s
  | .sliceSp => Sys2Proof.Machine.execSliceSp s
  | .sliceSi => Sys2Proof.Machine.execSliceSi s
  | .slicePAll => Sys2Proof.Machine.execSlicePAll s
  | .sliceBAll => Sys2Proof.Machine.execSliceBAll s
  | .sliceIAll => Sys2Proof.Machine.execSliceIAll s
  | .sliceSpAll => Sys2Proof.Machine.execSliceSpAll s
  | .sliceSiAll => Sys2Proof.Machine.execSliceSiAll s
  | .iNxN => Sys2Proof.Machine.execINxN s
  | .i_16x16_0_0_0 => Sys2Proof.Machine.execI_16x16_0_0_0 s
  | .i_16x16_1_0_0 => Sys2Proof.Machine.execI_16x16_1_0_0 s
  | .i_16x16_2_0_0 => Sys2Proof.Machine.execI_16x16_2_0_0 s
  | .i_16x16_3_0_0 => Sys2Proof.Machine.execI_16x16_3_0_0 s
  | .i_16x16_0_1_0 => Sys2Proof.Machine.execI_16x16_0_1_0 s
  | .i_16x16_1_1_0 => Sys2Proof.Machine.execI_16x16_1_1_0 s
  | .i_16x16_2_1_0 => Sys2Proof.Machine.execI_16x16_2_1_0 s
  | .i_16x16_3_1_0 => Sys2Proof.Machine.execI_16x16_3_1_0 s
  | .i_16x16_0_2_0 => Sys2Proof.Machine.execI_16x16_0_2_0 s
  | .i_16x16_1_2_0 => Sys2Proof.Machine.execI_16x16_1_2_0 s
  | .i_16x16_2_2_0 => Sys2Proof.Machine.execI_16x16_2_2_0 s
  | .i_16x16_3_2_0 => Sys2Proof.Machine.execI_16x16_3_2_0 s
  | .i_16x16_0_0_1 => Sys2Proof.Machine.execI_16x16_0_0_1 s
  | .i_16x16_1_0_1 => Sys2Proof.Machine.execI_16x16_1_0_1 s
  | .i_16x16_2_0_1 => Sys2Proof.Machine.execI_16x16_2_0_1 s
  | .i_16x16_3_0_1 => Sys2Proof.Machine.execI_16x16_3_0_1 s
  | .i_16x16_0_1_1 => Sys2Proof.Machine.execI_16x16_0_1_1 s
  | .i_16x16_1_1_1 => Sys2Proof.Machine.execI_16x16_1_1_1 s
  | .i_16x16_2_1_1 => Sys2Proof.Machine.execI_16x16_2_1_1 s
  | .i_16x16_3_1_1 => Sys2Proof.Machine.execI_16x16_3_1_1 s
  | .i_16x16_0_2_1 => Sys2Proof.Machine.execI_16x16_0_2_1 s
  | .i_16x16_1_2_1 => Sys2Proof.Machine.execI_16x16_1_2_1 s
  | .i_16x16_2_2_1 => Sys2Proof.Machine.execI_16x16_2_2_1 s
  | .i_16x16_3_2_1 => Sys2Proof.Machine.execI_16x16_3_2_1 s
  | .iPcm => Sys2Proof.Machine.execIPcm s
  | .pL0_16x16 => Sys2Proof.Machine.execPL0_16x16 s
  | .pL0L0_16x8 => Sys2Proof.Machine.execPL0L0_16x8 s
  | .pL0L0_8x16 => Sys2Proof.Machine.execPL0L0_8x16 s
  | .p8x8 => Sys2Proof.Machine.execP8x8 s
  | .p8x8ref0 => Sys2Proof.Machine.execP8x8ref0 s
  | .pINxN => Sys2Proof.Machine.execPINxN s
  | .pI_16x16_0_0_0 => Sys2Proof.Machine.execPI_16x16_0_0_0 s
  | .pI_16x16_1_0_0 => Sys2Proof.Machine.execPI_16x16_1_0_0 s
  | .pI_16x16_2_0_0 => Sys2Proof.Machine.execPI_16x16_2_0_0 s
  | .pI_16x16_3_0_0 => Sys2Proof.Machine.execPI_16x16_3_0_0 s
  | .pI_16x16_0_1_0 => Sys2Proof.Machine.execPI_16x16_0_1_0 s
  | .pI_16x16_1_1_0 => Sys2Proof.Machine.execPI_16x16_1_1_0 s
  | .pI_16x16_2_1_0 => Sys2Proof.Machine.execPI_16x16_2_1_0 s
  | .pI_16x16_3_1_0 => Sys2Proof.Machine.execPI_16x16_3_1_0 s
  | .pI_16x16_0_2_0 => Sys2Proof.Machine.execPI_16x16_0_2_0 s
  | .pI_16x16_1_2_0 => Sys2Proof.Machine.execPI_16x16_1_2_0 s
  | .pI_16x16_2_2_0 => Sys2Proof.Machine.execPI_16x16_2_2_0 s
  | .pI_16x16_3_2_0 => Sys2Proof.Machine.execPI_16x16_3_2_0 s
  | .pI_16x16_0_0_1 => Sys2Proof.Machine.execPI_16x16_0_0_1 s
  | .pI_16x16_1_0_1 => Sys2Proof.Machine.execPI_16x16_1_0_1 s
  | .pI_16x16_2_0_1 => Sys2Proof.Machine.execPI_16x16_2_0_1 s
  | .pI_16x16_3_0_1 => Sys2Proof.Machine.execPI_16x16_3_0_1 s
  | .pI_16x16_0_1_1 => Sys2Proof.Machine.execPI_16x16_0_1_1 s
  | .pI_16x16_1_1_1 => Sys2Proof.Machine.execPI_16x16_1_1_1 s
  | .pI_16x16_2_1_1 => Sys2Proof.Machine.execPI_16x16_2_1_1 s
  | .pI_16x16_3_1_1 => Sys2Proof.Machine.execPI_16x16_3_1_1 s
  | .pI_16x16_0_2_1 => Sys2Proof.Machine.execPI_16x16_0_2_1 s
  | .pI_16x16_1_2_1 => Sys2Proof.Machine.execPI_16x16_1_2_1 s
  | .pI_16x16_2_2_1 => Sys2Proof.Machine.execPI_16x16_2_2_1 s
  | .pI_16x16_3_2_1 => Sys2Proof.Machine.execPI_16x16_3_2_1 s
  | .pIPcm => Sys2Proof.Machine.execPIPcm s
  | .pSkip => Sys2Proof.Machine.execPSkip s
  | .bDirect16x16 => Sys2Proof.Machine.execBDirect16x16 s
  | .bL0_16x16 => Sys2Proof.Machine.execBL0_16x16 s
  | .bL1_16x16 => Sys2Proof.Machine.execBL1_16x16 s
  | .bBi_16x16 => Sys2Proof.Machine.execBBi_16x16 s
  | .bL0L0_16x8 => Sys2Proof.Machine.execBL0L0_16x8 s
  | .bL0L0_8x16 => Sys2Proof.Machine.execBL0L0_8x16 s
  | .bL1L1_16x8 => Sys2Proof.Machine.execBL1L1_16x8 s
  | .bL1L1_8x16 => Sys2Proof.Machine.execBL1L1_8x16 s
  | .bL0L1_16x8 => Sys2Proof.Machine.execBL0L1_16x8 s
  | .bL0L1_8x16 => Sys2Proof.Machine.execBL0L1_8x16 s
  | .bL1L0_16x8 => Sys2Proof.Machine.execBL1L0_16x8 s
  | .bL1L0_8x16 => Sys2Proof.Machine.execBL1L0_8x16 s
  | .bL0Bi_16x8 => Sys2Proof.Machine.execBL0Bi_16x8 s
  | .bL0Bi_8x16 => Sys2Proof.Machine.execBL0Bi_8x16 s
  | .bL1Bi_16x8 => Sys2Proof.Machine.execBL1Bi_16x8 s
  | .bL1Bi_8x16 => Sys2Proof.Machine.execBL1Bi_8x16 s
  | .bBiL0_16x8 => Sys2Proof.Machine.execBBiL0_16x8 s
  | .bBiL0_8x16 => Sys2Proof.Machine.execBBiL0_8x16 s
  | .bBiL1_16x8 => Sys2Proof.Machine.execBBiL1_16x8 s
  | .bBiL1_8x16 => Sys2Proof.Machine.execBBiL1_8x16 s
  | .bBiBi_16x8 => Sys2Proof.Machine.execBBiBi_16x8 s
  | .bBiBi_8x16 => Sys2Proof.Machine.execBBiBi_8x16 s
  | .b8x8 => Sys2Proof.Machine.execB8x8 s
  | .bINxN => Sys2Proof.Machine.execBINxN s
  | .bI_16x16_0_0_0 => Sys2Proof.Machine.execBI_16x16_0_0_0 s
  | .bI_16x16_1_0_0 => Sys2Proof.Machine.execBI_16x16_1_0_0 s
  | .bI_16x16_2_0_0 => Sys2Proof.Machine.execBI_16x16_2_0_0 s
  | .bI_16x16_3_0_0 => Sys2Proof.Machine.execBI_16x16_3_0_0 s
  | .bI_16x16_0_1_0 => Sys2Proof.Machine.execBI_16x16_0_1_0 s
  | .bI_16x16_1_1_0 => Sys2Proof.Machine.execBI_16x16_1_1_0 s
  | .bI_16x16_2_1_0 => Sys2Proof.Machine.execBI_16x16_2_1_0 s
  | .bI_16x16_3_1_0 => Sys2Proof.Machine.execBI_16x16_3_1_0 s
  | .bI_16x16_0_2_0 => Sys2Proof.Machine.execBI_16x16_0_2_0 s
  | .bI_16x16_1_2_0 => Sys2Proof.Machine.execBI_16x16_1_2_0 s
  | .bI_16x16_2_2_0 => Sys2Proof.Machine.execBI_16x16_2_2_0 s
  | .bI_16x16_3_2_0 => Sys2Proof.Machine.execBI_16x16_3_2_0 s
  | .bI_16x16_0_0_1 => Sys2Proof.Machine.execBI_16x16_0_0_1 s
  | .bI_16x16_1_0_1 => Sys2Proof.Machine.execBI_16x16_1_0_1 s
  | .bI_16x16_2_0_1 => Sys2Proof.Machine.execBI_16x16_2_0_1 s
  | .bI_16x16_3_0_1 => Sys2Proof.Machine.execBI_16x16_3_0_1 s
  | .bI_16x16_0_1_1 => Sys2Proof.Machine.execBI_16x16_0_1_1 s
  | .bI_16x16_1_1_1 => Sys2Proof.Machine.execBI_16x16_1_1_1 s
  | .bI_16x16_2_1_1 => Sys2Proof.Machine.execBI_16x16_2_1_1 s
  | .bI_16x16_3_1_1 => Sys2Proof.Machine.execBI_16x16_3_1_1 s
  | .bI_16x16_0_2_1 => Sys2Proof.Machine.execBI_16x16_0_2_1 s
  | .bI_16x16_1_2_1 => Sys2Proof.Machine.execBI_16x16_1_2_1 s
  | .bI_16x16_2_2_1 => Sys2Proof.Machine.execBI_16x16_2_2_1 s
  | .bI_16x16_3_2_1 => Sys2Proof.Machine.execBI_16x16_3_2_1 s
  | .bIPcm => Sys2Proof.Machine.execBIPcm s
  | .bSkip => Sys2Proof.Machine.execBSkip s
  | .subPL0_8x8 => Sys2Proof.Machine.execSubPL0_8x8 s
  | .subPL0_8x4 => Sys2Proof.Machine.execSubPL0_8x4 s
  | .subPL0_4x8 => Sys2Proof.Machine.execSubPL0_4x8 s
  | .subPL0_4x4 => Sys2Proof.Machine.execSubPL0_4x4 s
  | .subBDirect_8x8 => Sys2Proof.Machine.execSubBDirect_8x8 s
  | .subBL0_8x8 => Sys2Proof.Machine.execSubBL0_8x8 s
  | .subBL1_8x8 => Sys2Proof.Machine.execSubBL1_8x8 s
  | .subBBi_8x8 => Sys2Proof.Machine.execSubBBi_8x8 s
  | .subBL0_8x4 => Sys2Proof.Machine.execSubBL0_8x4 s
  | .subBL0_4x8 => Sys2Proof.Machine.execSubBL0_4x8 s
  | .subBL1_8x4 => Sys2Proof.Machine.execSubBL1_8x4 s
  | .subBL1_4x8 => Sys2Proof.Machine.execSubBL1_4x8 s
  | .subBBi_8x4 => Sys2Proof.Machine.execSubBBi_8x4 s
  | .subBBi_4x8 => Sys2Proof.Machine.execSubBBi_4x8 s
  | .subBL0_4x4 => Sys2Proof.Machine.execSubBL0_4x4 s
  | .subBL1_4x4 => Sys2Proof.Machine.execSubBL1_4x4 s
  | .subBBi_4x4 => Sys2Proof.Machine.execSubBBi_4x4 s
  | .intra4x4Vertical => Sys2Proof.Machine.execIntra4x4Vertical s
  | .intra4x4Horizontal => Sys2Proof.Machine.execIntra4x4Horizontal s
  | .intra4x4Dc => Sys2Proof.Machine.execIntra4x4Dc s
  | .intra4x4DiagDownLeft => Sys2Proof.Machine.execIntra4x4DiagDownLeft s
  | .intra4x4DiagDownRight => Sys2Proof.Machine.execIntra4x4DiagDownRight s
  | .intra4x4VerticalRight => Sys2Proof.Machine.execIntra4x4VerticalRight s
  | .intra4x4HorizontalDown => Sys2Proof.Machine.execIntra4x4HorizontalDown s
  | .intra4x4VerticalLeft => Sys2Proof.Machine.execIntra4x4VerticalLeft s
  | .intra4x4HorizontalUp => Sys2Proof.Machine.execIntra4x4HorizontalUp s
  | .intra8x8Vertical => Sys2Proof.Machine.execIntra8x8Vertical s
  | .intra8x8Horizontal => Sys2Proof.Machine.execIntra8x8Horizontal s
  | .intra8x8Dc => Sys2Proof.Machine.execIntra8x8Dc s
  | .intra8x8DiagDownLeft => Sys2Proof.Machine.execIntra8x8DiagDownLeft s
  | .intra8x8DiagDownRight => Sys2Proof.Machine.execIntra8x8DiagDownRight s
  | .intra8x8VerticalRight => Sys2Proof.Machine.execIntra8x8VerticalRight s
  | .intra8x8HorizontalDown => Sys2Proof.Machine.execIntra8x8HorizontalDown s
  | .intra8x8VerticalLeft => Sys2Proof.Machine.execIntra8x8VerticalLeft s
  | .intra8x8HorizontalUp => Sys2Proof.Machine.execIntra8x8HorizontalUp s
  | .intra16x16Vertical => Sys2Proof.Machine.execIntra16x16Vertical s
  | .intra16x16Horizontal => Sys2Proof.Machine.execIntra16x16Horizontal s
  | .intra16x16Dc => Sys2Proof.Machine.execIntra16x16Dc s
  | .intra16x16Plane => Sys2Proof.Machine.execIntra16x16Plane s
  | .chromaDc => Sys2Proof.Machine.execChromaDc s
  | .chromaHorizontal => Sys2Proof.Machine.execChromaHorizontal s
  | .chromaVertical => Sys2Proof.Machine.execChromaVertical s
  | .chromaPlane => Sys2Proof.Machine.execChromaPlane s
  | .qpel00G => Sys2Proof.Machine.execQpel00G s
  | .qpel01d => Sys2Proof.Machine.execQpel01d s
  | .qpel02h => Sys2Proof.Machine.execQpel02h s
  | .qpel03n => Sys2Proof.Machine.execQpel03n s
  | .qpel10a => Sys2Proof.Machine.execQpel10a s
  | .qpel11e => Sys2Proof.Machine.execQpel11e s
  | .qpel12i => Sys2Proof.Machine.execQpel12i s
  | .qpel13p => Sys2Proof.Machine.execQpel13p s
  | .qpel20b => Sys2Proof.Machine.execQpel20b s
  | .qpel21f => Sys2Proof.Machine.execQpel21f s
  | .qpel22j => Sys2Proof.Machine.execQpel22j s
  | .qpel23q => Sys2Proof.Machine.execQpel23q s
  | .qpel30c => Sys2Proof.Machine.execQpel30c s
  | .qpel31g => Sys2Proof.Machine.execQpel31g s
  | .qpel32k => Sys2Proof.Machine.execQpel32k s
  | .qpel33r => Sys2Proof.Machine.execQpel33r s
  | .cpel00 => Sys2Proof.Machine.execCpel00 s
  | .cpel01 => Sys2Proof.Machine.execCpel01 s
  | .cpel02 => Sys2Proof.Machine.execCpel02 s
  | .cpel03 => Sys2Proof.Machine.execCpel03 s
  | .cpel04 => Sys2Proof.Machine.execCpel04 s
  | .cpel05 => Sys2Proof.Machine.execCpel05 s
  | .cpel06 => Sys2Proof.Machine.execCpel06 s
  | .cpel07 => Sys2Proof.Machine.execCpel07 s
  | .cpel10 => Sys2Proof.Machine.execCpel10 s
  | .cpel11 => Sys2Proof.Machine.execCpel11 s
  | .cpel12 => Sys2Proof.Machine.execCpel12 s
  | .cpel13 => Sys2Proof.Machine.execCpel13 s
  | .cpel14 => Sys2Proof.Machine.execCpel14 s
  | .cpel15 => Sys2Proof.Machine.execCpel15 s
  | .cpel16 => Sys2Proof.Machine.execCpel16 s
  | .cpel17 => Sys2Proof.Machine.execCpel17 s
  | .cpel20 => Sys2Proof.Machine.execCpel20 s
  | .cpel21 => Sys2Proof.Machine.execCpel21 s
  | .cpel22 => Sys2Proof.Machine.execCpel22 s
  | .cpel23 => Sys2Proof.Machine.execCpel23 s
  | .cpel24 => Sys2Proof.Machine.execCpel24 s
  | .cpel25 => Sys2Proof.Machine.execCpel25 s
  | .cpel26 => Sys2Proof.Machine.execCpel26 s
  | .cpel27 => Sys2Proof.Machine.execCpel27 s
  | .cpel30 => Sys2Proof.Machine.execCpel30 s
  | .cpel31 => Sys2Proof.Machine.execCpel31 s
  | .cpel32 => Sys2Proof.Machine.execCpel32 s
  | .cpel33 => Sys2Proof.Machine.execCpel33 s
  | .cpel34 => Sys2Proof.Machine.execCpel34 s
  | .cpel35 => Sys2Proof.Machine.execCpel35 s
  | .cpel36 => Sys2Proof.Machine.execCpel36 s
  | .cpel37 => Sys2Proof.Machine.execCpel37 s
  | .cpel40 => Sys2Proof.Machine.execCpel40 s
  | .cpel41 => Sys2Proof.Machine.execCpel41 s
  | .cpel42 => Sys2Proof.Machine.execCpel42 s
  | .cpel43 => Sys2Proof.Machine.execCpel43 s
  | .cpel44 => Sys2Proof.Machine.execCpel44 s
  | .cpel45 => Sys2Proof.Machine.execCpel45 s
  | .cpel46 => Sys2Proof.Machine.execCpel46 s
  | .cpel47 => Sys2Proof.Machine.execCpel47 s
  | .cpel50 => Sys2Proof.Machine.execCpel50 s
  | .cpel51 => Sys2Proof.Machine.execCpel51 s
  | .cpel52 => Sys2Proof.Machine.execCpel52 s
  | .cpel53 => Sys2Proof.Machine.execCpel53 s
  | .cpel54 => Sys2Proof.Machine.execCpel54 s
  | .cpel55 => Sys2Proof.Machine.execCpel55 s
  | .cpel56 => Sys2Proof.Machine.execCpel56 s
  | .cpel57 => Sys2Proof.Machine.execCpel57 s
  | .cpel60 => Sys2Proof.Machine.execCpel60 s
  | .cpel61 => Sys2Proof.Machine.execCpel61 s
  | .cpel62 => Sys2Proof.Machine.execCpel62 s
  | .cpel63 => Sys2Proof.Machine.execCpel63 s
  | .cpel64 => Sys2Proof.Machine.execCpel64 s
  | .cpel65 => Sys2Proof.Machine.execCpel65 s
  | .cpel66 => Sys2Proof.Machine.execCpel66 s
  | .cpel67 => Sys2Proof.Machine.execCpel67 s
  | .cpel70 => Sys2Proof.Machine.execCpel70 s
  | .cpel71 => Sys2Proof.Machine.execCpel71 s
  | .cpel72 => Sys2Proof.Machine.execCpel72 s
  | .cpel73 => Sys2Proof.Machine.execCpel73 s
  | .cpel74 => Sys2Proof.Machine.execCpel74 s
  | .cpel75 => Sys2Proof.Machine.execCpel75 s
  | .cpel76 => Sys2Proof.Machine.execCpel76 s
  | .cpel77 => Sys2Proof.Machine.execCpel77 s
  | .idct4x4 => Sys2Proof.Machine.execIdct4x4 s
  | .dequantBranches => Sys2Proof.Machine.execDequantBranches s
  | .lumaDc4x4 => Sys2Proof.Machine.execLumaDc4x4 s
  | .chromaDc2x2 => Sys2Proof.Machine.execChromaDc2x2 s
  | .chromaAc => Sys2Proof.Machine.execChromaAc s
  | .idct8x8 => Sys2Proof.Machine.execIdct8x8 s
  | .reconClip => Sys2Proof.Machine.execReconClip s
  | .zeroBlock => Sys2Proof.Machine.execZeroBlock s
  | .dcOnly4x4 => Sys2Proof.Machine.execDcOnly4x4 s
  | .sgmap0Interleaved => Sys2Proof.Machine.execSgmap0Interleaved s
  | .sgmap1Dispersed => Sys2Proof.Machine.execSgmap1Dispersed s
  | .sgmap2Foreground => Sys2Proof.Machine.execSgmap2Foreground s
  | .sgmap3BoxOut => Sys2Proof.Machine.execSgmap3BoxOut s
  | .sgmap4Raster => Sys2Proof.Machine.execSgmap4Raster s
  | .sgmap5Wipe => Sys2Proof.Machine.execSgmap5Wipe s
  | .sgmap6Explicit => Sys2Proof.Machine.execSgmap6Explicit s
  | .pocType0 => Sys2Proof.Machine.execPocType0 s
  | .pocType1 => Sys2Proof.Machine.execPocType1 s
  | .pocType2 => Sys2Proof.Machine.execPocType2 s

end Sys2Proof.Machine
end

