-- ==== Sys2Proof/Machine/Run.lean ====
section
/-! DEFINITION. Running the pending work, fetching the next operation's code, and the host's acts (10_state.md R60-R70, 20_memory.md R100-R112, 70_reset_and_hazards.md R866, R867). -/

namespace Sys2Proof.Machine

/-! ## Fetching an operation -/

/-- Run the operation that code value `v` of a space selects; a value without an operation is reserved (30_encoding.md R155). -/
def runCode (sp : Space) (v : Nat) (s : State) : Host.Outcome State Fault Refusal :=
  match decode sp (codeBits sp v) with
  | .ok i _ => exec i s
  | .error _ _ => .next (s.raise .invalid)

/-- Run the operation coded at the bit reader's cursor. -/
def fetchBits (sp : Space) (s : State) : Host.Outcome State Fault Refusal :=
  match decode sp (s.br.window 64) with
  | .ok i n => exec i (s.setBr (s.br.advance n))
  | .error e n => .next ((s.setBr (s.br.advance n)).raise (DecodeError.err e))

/-- Run the operation whose value a CABAC element gives (45_cabac_syntax.md R511-R515). -/
def fetchAe (sp : Space) (r : Rd Nat) (s : State) : Host.Outcome State Fault Refusal :=
  match r s.ps with
  | .ok v p => runCode sp v (s.setPs p)
  | .error e p => .next (((s.setBr p.br).setCabac p.cabac).raise e)

/-- `slice_type`: a reserved value is kept, for the activation to reject after `pic_parameter_set_id` (42_slice_header.md R300, R302). -/
def fetchSliceType (s : State) : Host.Outcome State Fault Refusal :=
  match ueDecode (s.br.window 64) with
  | .ok v n =>
    let s1 := s.setBr (s.br.advance n)
    match sliceTypeOf v with
    | some i => exec i s1
    | none => .next (s1.updSl fun h => { h with sliceType := v })
  | .error e n => .next ((s.setBr (s.br.advance n)).raise (DecodeError.err e))

/-- The code of a kept modification command. -/
def rplmBits (c : Nat × Nat) : List Bool := ueEncode c.1 ++ ueEncode c.2

/-- The code of a kept marking operation. -/
def mmcoBits (m : Mmco) : List Bool :=
  ueEncode m.op ++ (if m.op = 5 then [] else ueEncode m.a) ++ (if m.op = 3 then ueEncode m.b else [])

/-- The next kept command; past the last one the list's end. -/
def nextRplm (w : Wk) : List Bool × Wk :=
  match w.rplmLeft with
  | [] => (ueEncode 3, w)
  | c :: r => (rplmBits c, { w with rplmLeft := r })

def nextMmco (w : Wk) : List Bool × Wk :=
  match w.mmcoLeft with
  | [] => (ueEncode 0, w)
  | m :: r => (mmcoBits m, { w with mmcoLeft := r })

/-- Run the operation of a kept command's code. -/
def runKept (sp : Space) (n : List Bool × Wk) (s : State) : Host.Outcome State Fault Refusal :=
  match decode sp n.1 with
  | .ok i _ => exec i (s.setWk n.2)
  | .error _ _ => .next (s.raise .invalid)

/-- The NAL header byte (40_bitreader_nal.md R220 step 4). -/
def State.nalByte (s : State) : Nat := (s.byteAt s.csr.nalAddr.toNat).toNat

/-- Fetch the next operation of a space and run it. -/
def fetch (sp : Space) (s : State) : Host.Outcome State Fault Refusal :=
  match sp with
  | .nalHdr => runCode .nalHdr s.nalByte s
  | .sliceType => fetchSliceType s
  | .mbI | .mbP | .mbB => if s.hdr.pps.cabac then fetchAe sp (aeMbType s) s else fetchBits sp s
  | .subP | .subB => if s.hdr.pps.cabac then fetchAe sp (aeSubMbType s) s else fetchBits sp s
  | .rplm => runKept .rplm (nextRplm s.wk) s
  | .mmco => runKept .mmco (nextMmco s.wk) s
  | .desc d => runCode (.desc d) 0 s
  | .skipP => runCode .skipP 0 s
  | .skipB => runCode .skipB 0 s
  | .cmd | .i4Mode | .i8Mode | .i16Mode | .chromaMode | .qpel | .cpel | .xform | .sgMap | .pocType => fetchBits sp s

/-! ## Pending work -/

/-- Do one piece of pending work. -/
def doTask (t : Task) (s : State) : Host.Outcome State Fault Refusal :=
  match t with
  | .op sp v => runCode sp v s
  | .fetch sp => fetch sp s
  | .nalDone => .next s.nalDone
  | .firstMb => .next s.firstMb
  | .sliceHeader => .next s.sliceHeader
  | .alloc => .next s.alloc
  | .allocFinish h => if s.frameFits h then .next (s.allocFinish h) else .fault .frameStoreOutOfSpace
  | .lists => .next s.initRefLists
  | .rplmStart x => .next (s.rplmStart x)
  | .initSlice => .next s.initSlice
  | .loopTop => .next s.loopTop
  | .skipRun => .next s.skipRun
  | .skipLoop run => .next (s.skipLoop run)
  | .skipNext run => .next (s.skipNext run)
  | .skipFlag => .next s.skipFlag
  | .mbStart skipped => .next (s.mbStart skipped)
  | .loopEnd => .next s.loopEnd
  | .endFlag => .next s.endFlag
  | .advance => .next (s.nextMb [.loopTop])
  | .mbRest => .next s.mbRest
  | .i4Mode k => .next (s.i4Mode k)
  | .i8Mode k => .next (s.i8Mode k)
  | .luma4x4 k => .next (s.luma4x4 k)
  | .luma8x8 k => .next (s.luma8x8 k)
  | .lumaDc => .next s.lumaDc
  | .chromaDc c => .next (s.chromaDc c)
  | .chromaAc c k => .next (s.chromaAc c k)
  | .chromaPred c => .next (s.chromaPred c)
  | .part i => .next (s.startPart i)
  | .predLuma x => .next (s.predLuma x)
  | .predChroma x c => .next (s.predChroma x c)
  | .weight => .next s.weightPart
  | .writeBack => .next s.writeBack
  | .auEndFinish => .next s.auEndFinish

/-- The block's own turn: the next piece of work, or nothing when idle (60_exceptions.md R845). -/
def work (s : State) : Host.Outcome State Fault Refusal :=
  match s.tasks with
  | [] => .next s
  | t :: ts => doTask t (s.setTasks ts)

/-! ## Registers -/

/-- The bits of an address register that exist (10_state.md R64, R69). -/
def State.addrMask (s : State) (v : Word) : Word := BitVec.ofNat 32 (v.toNat % 2 ^ s.params.addrW)

/-- A register's value at an offset; 0 for an offset not listed (10_state.md R60). -/
def State.regValue (s : State) (off : Nat) : Word :=
  match off with
  | 0x00 => s.params.hwId
  | 0x08 => s.csr.nalAddr
  | 0x0C => s.csr.nalLen
  | 0x10 => s.csr.statusWord
  | 0x14 => s.csr.errInfo
  | 0x18 => s.csr.errPos
  | 0x1C => s.csr.outFrame
  | 0x20 => s.csr.outPoc
  | 0x24 => s.csr.relHandle.setWidth 32
  | 0x28 => s.csr.frameBase
  | 0x2C => s.csr.nalCount
  | _ => 0

/-- The value a racy register had when the command in progress was taken (70_reset_and_hazards.md R867). -/
def Bus.before (b : Bus) (off : Nat) : Option Word :=
  match off with
  | 0x10 => some b.status
  | 0x14 => some b.errInfo
  | 0x18 => some b.errPos
  | 0x1C => some b.outFrame
  | 0x20 => some b.outPoc
  | 0x2C => some b.nalCount
  | _ => none

/-- Deliver a value to the host. -/
def State.deliver (s : State) (v : Word) : State := s.setBus { s.bus with lastRead := v }

/-- A register read. While busy, the registers that a command writes (STATUS, ERR_INFO, ERR_POS, OUT_FRAME, OUT_POC, NAL_COUNT) give the value before the command, the value now, or a value set later (70_reset_and_hazards.md R867, 93_implementation_defined.md Part 1): the free choice is which (log entry 2). -/
def State.readReg (s : State) (off : Nat) : State :=
  match s.csr.busy, s.bus.before off with
  | true, some old =>
    (s.deliver (match Config.freeChoice s.freeCtr with
      | 0 => old
      | 1 => s.regValue off
      | _ => Config.freeWord s.freeCtr)).drawn 1
  | _, _ => s.deliver (s.regValue off)

/-- A `CTRL` write (10_state.md R63). -/
def ctrlWrite (w : Word) (s : State) : Host.Outcome State Fault Refusal :=
  match decode .cmd (natToBits 32 w.toNat) with
  | .ok .srst _ => exec .srst s
  | .ok i _ => if s.csr.busy then .next (s.setCmdErr true) else exec i (s.setCmdErr false)
  | .error _ _ => if w.toNat / 2 % 8 = 0 then .next s else .next (s.setCmdErr true)

/-- Whether a frame is in use. -/
def State.anyInUse (s : State) : Bool := s.fs.any fun f => f.inUse

/-- A write to a register other than CTRL (10_state.md R60-R70): read-only and unlisted offsets ignore it. -/
def State.writeReg (s : State) (off : Nat) (v : Word) : State :=
  match off with
  | 0x08 => if s.csr.busy then s else s.setCsr { s.csr with nalAddr := s.addrMask v }
  | 0x0C => if s.csr.busy then s else s.setCsr { s.csr with nalLen := v }
  | 0x24 => s.setCsr { s.csr with relHandle := v.setWidth 8 }
  | 0x28 => if s.anyInUse then s else s.setCsr { s.csr with frameBase := s.addrMask v }
  | _ => s

/-- Why a register access has no meaning (20_memory.md R100, R106, R107). -/
def State.regRefusal (s : State) (addr size : Nat) : Option Refusal :=
  if addr < s.params.regBase then some .outsideRegisterSpace
  else if size ≠ 4 then some .subWordRegister
  else if (addr - s.params.regBase) % 4 ≠ 0 then some .misalignedRegister
  else none

/-- A host register write. -/
def hostRegWrite (addr size : Nat) (v : Word) (s : State) : Host.Outcome State Fault Refusal :=
  match s.regRefusal addr size with
  | some r => .refused r
  | none =>
    let off := addr - s.params.regBase
    if off = 0x04 then ctrlWrite v s
    else if s.csr.busy ∧ off < 0x30 ∧ off ≠ 0x08 ∧ off ≠ 0x0C then .refused .registerWriteWhileBusy
    else .next (s.writeReg off v)

/-- A host register read. -/
def hostRegRead (addr size : Nat) (s : State) : Host.Outcome State Fault Refusal :=
  match s.regRefusal addr size with
  | some r => .refused r
  | none => .next (s.readReg (addr - s.params.regBase))

/-! ## Memory -/

/-- The frame buffer that holds an address (20_memory.md R102). -/
def State.bufferOf (s : State) (a : Nat) : Option Nat :=
  (List.range s.fs.length).find? fun h => decide (s.frameStart h ≤ a) && decide (a < s.frameStart h + s.frameBytes)

/-- The frame that the last AU_END output, until the next NAL command (10_state.md R65, R67); it is told by its whole handle. -/
def State.newlyOutput (s : State) (h : Nat) : Bool := s.csr.frameValid && decide (s.csr.outHandle = h)

/-- A frame buffer the host may write now (70_reset_and_hazards.md R866 item 3, 20_memory.md R115): while idle, one not in use, or the deblocked samples of the frame just output (R119, 70_reset_and_hazards.md R870). -/
def State.mayWriteFrame (s : State) (h : Nat) : Bool :=
  !s.csr.busy && (!(s.frame h).inUse
    || (s.params.refIsDeblocked && s.newlyOutput h && (s.dbk.getD h Dbk.empty).handedOver))

/-- An address of the NAL unit being processed (70_reset_and_hazards.md R866 item 2). -/
def State.inNal (s : State) (a : Nat) : Bool :=
  s.tasks.contains .nalDone && decide (s.csr.nalAddr.toNat ≤ a) && decide (a < s.csr.nalAddr.toNat + s.csr.nalLen.toNat)

/-- A host memory write. -/
def hostMemWrite (a : Nat) (v : Byte) (s : State) : Host.Outcome State Fault Refusal :=
  if a ≥ 2 ^ s.params.addrW then .refused .outsideMemory
  else if s.inNal a then .refused .nalBytesWrittenWhileBusy
  else
    let ok : Bool :=
      match s.bufferOf a with
      | none => true
      | some h => s.mayWriteFrame h
    if ok then .next (s.setMem (Mem.write s.mem a v)) else .refused .frameBufferWrite

/-- While idle the host reads an output frame after its AU_END completes and before it is released (70_reset_and_hazards.md R866 item 4): it reads no buffer whose frame is in use and not held, or was output and has been released. A buffer that is neither, a free one that holds no output frame, is memory like any other (20_memory.md R100). A buffer that was output and released stays closed to the host until a new frame takes it, also when FRAME_BASE has moved or the host has written it since, so that its bytes are no longer the output frame's: R866 speaks of the output frame alone, and this is the model's choice (log entry 24). -/
def State.mayReadFrame (s : State) (h : Nat) : Bool :=
  (s.frame h).held || (!(s.frame h).inUse && !(s.dbk.getD h Dbk.empty).handedOver)

/-- A host memory read. A frame buffer read while busy may return any value (20_memory.md R112); while idle a read that R866 item 4 forbids has no move. -/
def hostMemRead (a : Nat) (s : State) : Host.Outcome State Fault Refusal :=
  if a ≥ 2 ^ s.params.addrW then .refused .outsideMemory
  else match s.bufferOf a with
    | none => .next (s.deliver ((s.byteAt a).setWidth 32))
    | some h =>
      if s.csr.busy then .next ((s.deliver ((Config.freeWord s.freeCtr).setWidth 8 |>.setWidth 32)).drawn 1)
      else if s.mayReadFrame h then .next (s.deliver ((s.byteAt a).setWidth 32))
      else .refused .frameBufferRead

/-- One act of the host. -/
def hostEvent (e : HostEvent) (s : State) : Host.Outcome State Fault Refusal :=
  match e with
  | .regWrite addr size v => hostRegWrite addr size v s
  | .regRead addr size => hostRegRead addr size s
  | .memWrite a v => hostMemWrite a v s
  | .memRead a => hostMemRead a s

end Sys2Proof.Machine
end

