-- ==== Sys2Proof/Machine/Step.lean ====
section
/-! DEFINITION. One step of the machine, and the placing of an opcode-table word where the next step fetches it. -/

namespace Sys2Proof.Machine

/-- One step: a host act whose delay has passed, else the block's own turn, which brings the next host act one step nearer. -/
def step (s : State) : Host.Outcome State Fault Refusal :=
  match s.host with
  | (0, e) :: q => hostEvent e (s.setHost q)
  | (d + 1, e) :: q => work (s.setHost ((d, e) :: q))
  | [] => work s

/-- The next step fetches and runs the opcode-table word `w` of `nbits` bits: a `CTRL` word as the host's next write (10_state.md R62); a NAL header byte as the unit that a `NAL` command in progress names; a chroma phase or an intra 4x4 mode as the selector of the next piece of work. -/
def State.withFetchWord (s : State) (nbits w : Nat) : State :=
  if nbits = 32 then
    (s.setHost [(0, .regWrite (s.params.regBase + 4) 4 (BitVec.ofNat 32 w))]).setCsr { s.csr with busy := false }
  else if nbits = 8 then
    if 32 ≤ w ∧ w < 64 then (s.setHost []).setTasks [.op .cpel w]
    else
      (((s.setHost []).setTasks [.fetch .nalHdr, .nalDone]).setCsr { s.csr with busy := true, nalLen := 1 }).setMem
        (Mem.write s.mem s.csr.nalAddr.toNat (BitVec.ofNat 8 w))
  else if nbits = 16 then (s.setHost []).setTasks [.op .i4Mode (w % 16)]
  else s

end Sys2Proof.Machine
end

