-- ==== Sys2Proof/Safety.lean ====
section
/-! DEFINITION. What claims mean by a sound state and a safe run of MM-H264-CORE. -/

namespace Sys2Proof.Machine

/-- The error registers agree: a legal code (60_exceptions.md R812), and no error information without a code (10_state.md R66). -/
def Csr.errorsOk (c : Csr) : Bool :=
  decide (c.errCode.toNat ≤ 6) && (decide (c.errCode ≠ 0) || (decide (c.errInfo = 0xFFFFFFFF) && decide (c.errPos = 0)))

/-- The address bits above `ADDR_W` read 0 (10_state.md R64, R69). -/
def State.addressesOk (s : State) : Bool :=
  decide (s.csr.nalAddr.toNat < 2 ^ s.params.addrW) && decide (s.csr.frameBase.toNat < 2 ^ s.params.addrW)

/-- The tables have the sizes of 10_state.md R42, R43, R44, R53. -/
def State.sizesOk (s : State) : Bool :=
  decide (s.sps.length = 32) && decide (s.pps.length = 256) && decide (s.fs.length = s.params.numFrames)
    && decide (s.dbk.length = s.params.numFrames)

/-- A sound state: memory in canonical form, tables of their sizes, legal error registers and addresses. -/
def State.Inv (s : State) : Prop :=
  Mem.wf s.mem = true ∧ s.sizesOk = true ∧ s.csr.errorsOk = true ∧ s.addressesOk = true

/-- The machine is idle: nothing to do until the host writes CTRL (60_exceptions.md R845). -/
def State.idle (s : State) : Bool := s.tasks.isEmpty && !s.csr.busy

/-! ## Turns -/

/-- The host's acts after a step of the block: the next one is one step nearer. -/
def tick : List (Nat × HostEvent) → List (Nat × HostEvent)
  | (d + 1, e) :: q => (d, e) :: q
  | q => q

/-- It is the block's turn: no host act is due. -/
def State.blockTurn (s : State) : Bool :=
  match s.host with
  | (0, _) :: _ => false
  | _ => true

/-- The state in which the block does its next piece of work, when `ts` is the work after it. -/
def State.taken (s : State) (ts : List Task) : State := (s.setHost (tick s.host)).setTasks ts

/-- It is the block's turn and `k` is its next piece of work, `ts` the work after it. -/
def State.due (s : State) (k : Task) (ts : List Task) : Prop := s.blockTurn = true ∧ s.tasks = k :: ts

/-- A host write of a register at offset `off` is due, `q` what the host does after it. -/
def State.writes (s : State) (off : Nat) (w : Word) (q : List (Nat × HostEvent)) : Prop :=
  s.host = (0, .regWrite (s.params.regBase + off) 4 w) :: q

/-- A step that goes on. -/
def Steps (s t : State) : Prop := step s = .next t

/-- A run of `n` steps that all go on. -/
def Runs : Nat → State → State → Prop
  | 0, s, t => s = t
  | n + 1, s, t => ∃ u, Steps s u ∧ Runs n u t

/-- A safe run never meets a fault. -/
def Safe (s : State) : Prop := ∀ n t, Runs n s t → ∀ f, step t ≠ .fault f

/-! ## Words of the claims -/

/-- The bits at the cursor of the bit reader begin with `bs`. -/
def Br.startsWith (b : Br) (bs : List Bool) : Prop := b.window bs.length = bs

/-- The same frame buffers but for frame `h`. -/
def sameFramesBut (s t : State) (h : Nat) : Prop := t.fs.length = s.fs.length ∧ ∀ g, g ≠ h → t.frame g = s.frame g

/-- A frame that lost its mark: free as well, unless the host holds it or it is the current one (49_reflist.md R782). -/
def State.unmarkedFrame (s : State) (h : Nat) : Frame :=
  { s.frame h with mark := .unused,
                   inUse := if (s.frame h).held = false ∧ s.au.curFrame ≠ some h then false else (s.frame h).inUse }

/-- An error latched in registers that hold no error (60_exceptions.md R813). -/
def Csr.latched (c : Csr) (code : Byte) (nal mb : Nat) (pos : Nat) : Csr :=
  if c.errCode = 0 then
    { c with errCode := code, errInfo := BitVec.ofNat 16 nal ++ BitVec.ofNat 16 mb, errPos := BitVec.ofNat 32 pos }
  else c

/-- Put emulation-prevention bytes into an RBSP: a `03` before every byte up to `03` that follows two zero bytes. -/
def insertEpb (zeros : Nat) : List Byte → List Byte
  | [] => []
  | b :: r =>
    if zeros ≥ 2 ∧ b.toNat ≤ 3 then 3 :: b :: insertEpb (if b = 0 then 1 else 0) r
    else b :: insertEpb (if b = 0 then zeros + 1 else 0) r

/-- All samples of a block's neighbourhood are 8-bit samples. -/
def IntraNb.samples (p : IntraNb) : Prop :=
  (∀ v ∈ p.top, 0 ≤ v ∧ v ≤ 255) ∧ (∀ v ∈ p.left, 0 ≤ v ∧ v ≤ 255) ∧ 0 ≤ p.corner ∧ p.corner ≤ 255

/-! ## The box-out walk (43_slice_fsm.md R368) -/

/-- A place of the walk: the unit `(x, y)`, the box walked so far and the direction. -/
structure BoxPlace where
  x : Int
  y : Int
  left : Int
  top : Int
  right : Int
  bottom : Int
  xDir : Int
  yDir : Int
  deriving DecidableEq, Repr

/-- The first place, the middle of a picture of `w x h` units. -/
def BoxPlace.first (w h dir : Nat) : BoxPlace :=
  let x : Int := ((w : Int) - dir) / 2
  let y : Int := ((h : Int) - dir) / 2
  ⟨x, y, x, y, x, y, (dir : Int) - 1, dir⟩

/-- The next place: at the edge of the box the box grows, inside the picture, and the walk turns. -/
def BoxPlace.next (w h dir : Nat) (p : BoxPlace) : BoxPlace :=
  if p.xDir = -1 ∧ p.x = p.left then
    { p with left := max (p.left - 1) 0, x := max (p.left - 1) 0, xDir := 0, yDir := 2 * (dir : Int) - 1 }
  else if p.xDir = 1 ∧ p.x = p.right then
    { p with right := min (p.right + 1) (w - 1), x := min (p.right + 1) (w - 1), xDir := 0, yDir := 1 - 2 * (dir : Int) }
  else if p.yDir = -1 ∧ p.y = p.top then
    { p with top := max (p.top - 1) 0, y := max (p.top - 1) 0, xDir := 1 - 2 * (dir : Int), yDir := 0 }
  else if p.yDir = 1 ∧ p.y = p.bottom then
    { p with bottom := min (p.bottom + 1) (h - 1), y := min (p.bottom + 1) (h - 1), xDir := 2 * (dir : Int) - 1, yDir := 0 }
  else { p with x := p.x + p.xDir, y := p.y + p.yDir }

/-- The addresses of `n` places of the walk, from a place on. -/
def BoxPlace.units (w h dir : Nat) : Nat → BoxPlace → List Nat
  | 0, _ => []
  | n + 1, p => (p.y * w + p.x).toNat :: BoxPlace.units w h dir n (p.next w h dir)

/-- The addresses of the first `n` places of the walk; the walk comes by some of them more than once. -/
def boxOutUnits (w h dir n : Nat) : List Nat := BoxPlace.units w h dir n (BoxPlace.first w h dir)

/-! ## Operations by the values the tables give them -/

/-- The ten operations SLICETYPE with `slice_type` (30_encoding.md R147). -/
def sliceTypeOps : List (Instr × Nat) :=
  [(.sliceP, 0), (.sliceB, 1), (.sliceI, 2), (.sliceSp, 3),
   (.sliceSi, 4), (.slicePAll, 5), (.sliceBAll, 6), (.sliceIAll, 7),
   (.sliceSpAll, 8), (.sliceSiAll, 9)]

/-- The coded intra operations of I, P and B slices but I_PCM, with their types (44_mb_syntax.md R440, R441). -/
def codedIntraOps : List (Instr × MbType) :=
  [(.iNxN, .iNxN), (.i_16x16_0_0_0, .i16x16 0), (.i_16x16_1_0_0, .i16x16 1), (.i_16x16_2_0_0, .i16x16 2),
   (.i_16x16_3_0_0, .i16x16 3), (.i_16x16_0_1_0, .i16x16 4), (.i_16x16_1_1_0, .i16x16 5), (.i_16x16_2_1_0, .i16x16 6),
   (.i_16x16_3_1_0, .i16x16 7), (.i_16x16_0_2_0, .i16x16 8), (.i_16x16_1_2_0, .i16x16 9), (.i_16x16_2_2_0, .i16x16 10),
   (.i_16x16_3_2_0, .i16x16 11), (.i_16x16_0_0_1, .i16x16 12), (.i_16x16_1_0_1, .i16x16 13), (.i_16x16_2_0_1, .i16x16 14),
   (.i_16x16_3_0_1, .i16x16 15), (.i_16x16_0_1_1, .i16x16 16), (.i_16x16_1_1_1, .i16x16 17), (.i_16x16_2_1_1, .i16x16 18),
   (.i_16x16_3_1_1, .i16x16 19), (.i_16x16_0_2_1, .i16x16 20), (.i_16x16_1_2_1, .i16x16 21), (.i_16x16_2_2_1, .i16x16 22),
   (.i_16x16_3_2_1, .i16x16 23), (.pINxN, .iNxN), (.pI_16x16_0_0_0, .i16x16 0), (.pI_16x16_1_0_0, .i16x16 1),
   (.pI_16x16_2_0_0, .i16x16 2), (.pI_16x16_3_0_0, .i16x16 3), (.pI_16x16_0_1_0, .i16x16 4), (.pI_16x16_1_1_0, .i16x16 5),
   (.pI_16x16_2_1_0, .i16x16 6), (.pI_16x16_3_1_0, .i16x16 7), (.pI_16x16_0_2_0, .i16x16 8), (.pI_16x16_1_2_0, .i16x16 9),
   (.pI_16x16_2_2_0, .i16x16 10), (.pI_16x16_3_2_0, .i16x16 11), (.pI_16x16_0_0_1, .i16x16 12), (.pI_16x16_1_0_1, .i16x16 13),
   (.pI_16x16_2_0_1, .i16x16 14), (.pI_16x16_3_0_1, .i16x16 15), (.pI_16x16_0_1_1, .i16x16 16), (.pI_16x16_1_1_1, .i16x16 17),
   (.pI_16x16_2_1_1, .i16x16 18), (.pI_16x16_3_1_1, .i16x16 19), (.pI_16x16_0_2_1, .i16x16 20), (.pI_16x16_1_2_1, .i16x16 21),
   (.pI_16x16_2_2_1, .i16x16 22), (.pI_16x16_3_2_1, .i16x16 23), (.bINxN, .iNxN), (.bI_16x16_0_0_0, .i16x16 0),
   (.bI_16x16_1_0_0, .i16x16 1), (.bI_16x16_2_0_0, .i16x16 2), (.bI_16x16_3_0_0, .i16x16 3), (.bI_16x16_0_1_0, .i16x16 4),
   (.bI_16x16_1_1_0, .i16x16 5), (.bI_16x16_2_1_0, .i16x16 6), (.bI_16x16_3_1_0, .i16x16 7), (.bI_16x16_0_2_0, .i16x16 8),
   (.bI_16x16_1_2_0, .i16x16 9), (.bI_16x16_2_2_0, .i16x16 10), (.bI_16x16_3_2_0, .i16x16 11), (.bI_16x16_0_0_1, .i16x16 12),
   (.bI_16x16_1_0_1, .i16x16 13), (.bI_16x16_2_0_1, .i16x16 14), (.bI_16x16_3_0_1, .i16x16 15), (.bI_16x16_0_1_1, .i16x16 16),
   (.bI_16x16_1_1_1, .i16x16 17), (.bI_16x16_2_1_1, .i16x16 18), (.bI_16x16_3_1_1, .i16x16 19), (.bI_16x16_0_2_1, .i16x16 20),
   (.bI_16x16_1_2_1, .i16x16 21), (.bI_16x16_2_2_1, .i16x16 22), (.bI_16x16_3_2_1, .i16x16 23)]

/-- The coded inter operations of P and B slices with their types (44_mb_syntax.md R442, R443). -/
def codedInterOps : List (Instr × MbType) :=
  [(.pL0_16x16, .p 0), (.pL0L0_16x8, .p 1), (.pL0L0_8x16, .p 2), (.p8x8, .p 3),
   (.p8x8ref0, .p 4), (.bDirect16x16, .b 0), (.bL0_16x16, .b 1), (.bL1_16x16, .b 2),
   (.bBi_16x16, .b 3), (.bL0L0_16x8, .b 4), (.bL0L0_8x16, .b 5), (.bL1L1_16x8, .b 6),
   (.bL1L1_8x16, .b 7), (.bL0L1_16x8, .b 8), (.bL0L1_8x16, .b 9), (.bL1L0_16x8, .b 10),
   (.bL1L0_8x16, .b 11), (.bL0Bi_16x8, .b 12), (.bL0Bi_8x16, .b 13), (.bL1Bi_16x8, .b 14),
   (.bL1Bi_8x16, .b 15), (.bBiL0_16x8, .b 16), (.bBiL0_8x16, .b 17), (.bBiL1_16x8, .b 18),
   (.bBiL1_8x16, .b 19), (.bBiBi_16x8, .b 20), (.bBiBi_8x16, .b 21), (.b8x8, .b 22)]

/-- The operations SUBMB_P and SUBMB_B with their types (44_mb_syntax.md R444). -/
def subTypeOps : List (Instr × SubType) :=
  [(.subPL0_8x8, .p 0), (.subPL0_8x4, .p 1), (.subPL0_4x8, .p 2), (.subPL0_4x4, .p 3),
   (.subBDirect_8x8, .b 0), (.subBL0_8x8, .b 1), (.subBL1_8x8, .b 2), (.subBBi_8x8, .b 3),
   (.subBL0_8x4, .b 4), (.subBL0_4x8, .b 5), (.subBL1_8x4, .b 6), (.subBL1_4x8, .b 7),
   (.subBBi_8x4, .b 8), (.subBBi_4x8, .b 9), (.subBL0_4x4, .b 10), (.subBL1_4x4, .b 11),
   (.subBBi_4x4, .b 12)]

/-- The operations CPEL_CHROMA with `8 * xFC + yFC` (30_encoding.md R151). -/
def cpelOps : List (Instr × Nat) :=
  [(.cpel00, 0), (.cpel01, 1), (.cpel02, 2), (.cpel03, 3),
   (.cpel04, 4), (.cpel05, 5), (.cpel06, 6), (.cpel07, 7),
   (.cpel10, 8), (.cpel11, 9), (.cpel12, 10), (.cpel13, 11),
   (.cpel14, 12), (.cpel15, 13), (.cpel16, 14), (.cpel17, 15),
   (.cpel20, 16), (.cpel21, 17), (.cpel22, 18), (.cpel23, 19),
   (.cpel24, 20), (.cpel25, 21), (.cpel26, 22), (.cpel27, 23),
   (.cpel30, 24), (.cpel31, 25), (.cpel32, 26), (.cpel33, 27),
   (.cpel34, 28), (.cpel35, 29), (.cpel36, 30), (.cpel37, 31),
   (.cpel40, 32), (.cpel41, 33), (.cpel42, 34), (.cpel43, 35),
   (.cpel44, 36), (.cpel45, 37), (.cpel46, 38), (.cpel47, 39),
   (.cpel50, 40), (.cpel51, 41), (.cpel52, 42), (.cpel53, 43),
   (.cpel54, 44), (.cpel55, 45), (.cpel56, 46), (.cpel57, 47),
   (.cpel60, 48), (.cpel61, 49), (.cpel62, 50), (.cpel63, 51),
   (.cpel64, 52), (.cpel65, 53), (.cpel66, 54), (.cpel67, 55),
   (.cpel70, 56), (.cpel71, 57), (.cpel72, 58), (.cpel73, 59),
   (.cpel74, 60), (.cpel75, 61), (.cpel76, 62), (.cpel77, 63)]

/-- The operations of the NAL types that are ignored (30_encoding.md R146). -/
def ignoredNalOps : List ((BitVec 2 → Instr) × Nat) :=
  [(.nalType0, 0), (.nalType2, 2), (.nalType3, 3), (.nalType4, 4),
   (.nalType6, 6), (.nalType9, 9), (.nalType10, 10), (.nalType11, 11),
   (.nalType12, 12), (.nalType13, 13), (.nalType14, 14), (.nalType15, 15),
   (.nalType16, 16), (.nalType17, 17), (.nalType18, 18), (.nalType19, 19),
   (.nalType20, 20), (.nalType21, 21), (.nalType22, 22), (.nalType23, 23),
   (.nalType24, 24), (.nalType25, 25), (.nalType26, 26), (.nalType27, 27),
   (.nalType28, 28), (.nalType29, 29), (.nalType30, 30), (.nalType31, 31)]

end Sys2Proof.Machine
end

