-- ==== Sys2Proof/Certificates/Slice0/Obligations.lean ====
section
/-! DEFINITION. The statements for the provers: what the rules of spec/ say the operations, the machine and its encodings do. -/

open Sys2Proof Sys2Proof.Machine

/-! ## Encoding -/

/-- A few codes written out bit by bit from the spec's encodings (30_encoding.md R140, R142, R145, R147-R152; 44_mb_syntax.md R440). -/
def Obligations.DecodeSampleWords : Prop :=
  decode .cmd (List.replicate 28 false ++ [false, true, false, false]) = .ok .auEnd 32 ∧
  decode .nalHdr [false, true, true, false, false, true, true, true] = .ok (.nalSps 3) 8 ∧
  decode .sliceType [false, false, false, true, false, false, false] = .ok .sliceIAll 7 ∧
  decode .mbI [false, false, false, false, true, true, false, true, false] = .ok .iPcm 9 ∧
  decode .mbP [false, false, true, false, false] = .ok .p8x8 5 ∧
  decode .mbB [false, true, false] = .ok .bL0_16x16 3 ∧
  decode .subB [false, false, true, false, false] = .ok .subBBi_8x8 5 ∧
  decode .chromaMode [false, true, true] = .ok .chromaVertical 3 ∧
  decode .rplm [true, false, true, true] = .ok (.rplmSub 2) 4 ∧
  decode .mmco [false, false, true, false, false, true, false, true, false] = .ok (.mmcoShortToLong 0 1) 9 ∧
  decode .sgMap [false, true, false] = .ok .sgmap1Dispersed 3 ∧
  decode .pocType [false, true, true] = .ok .pocType2 3

/-- Decoding gives back every encoded well-formed instruction, with exactly its own bits, whatever follows them (30_encoding.md R140-R153, R156). -/
def Obligations.DecodeInvertsEncode : Prop :=
  ∀ (i : Instr) (rest : List Bool), WellFormed i = true →
    decode (spaceOf i) (encode i ++ rest) = .ok i (encode i).length

/-- A codeword whose value its space reserves is refused as reserved, and no other is; more than 31 leading zeros are refused as malformed (30_encoding.md R147-R149, R152, R153, R155). -/
def Obligations.ReservedCodesRefused : Prop :=
  (∀ (v : Nat) (rest : List Bool), v < 2 ^ 32 - 1 →
    (decode .sliceType (ueEncode v ++ rest) = .error .reserved (ueEncode v).length ↔ v > 9) ∧
    (decode .mbI (ueEncode v ++ rest) = .error .reserved (ueEncode v).length ↔ v > 25) ∧
    (decode .mbP (ueEncode v ++ rest) = .error .reserved (ueEncode v).length ↔ v > 30) ∧
    (decode .mbB (ueEncode v ++ rest) = .error .reserved (ueEncode v).length ↔ v > 48) ∧
    (decode .subP (ueEncode v ++ rest) = .error .reserved (ueEncode v).length ↔ v > 3) ∧
    (decode .subB (ueEncode v ++ rest) = .error .reserved (ueEncode v).length ↔ v > 12) ∧
    (decode .chromaMode (ueEncode v ++ rest) = .error .reserved (ueEncode v).length ↔ v > 3) ∧
    (decode .sgMap (ueEncode v ++ rest) = .error .reserved (ueEncode v).length ↔ v > 6) ∧
    (decode .pocType (ueEncode v ++ rest) = .error .reserved (ueEncode v).length ↔ v > 2) ∧
    (decode .rplm (ueEncode v ++ rest) = .error .reserved (ueEncode v).length ↔ v > 3) ∧
    (decode .mmco (ueEncode v ++ rest) = .error .reserved (ueEncode v).length ↔ v > 6)) ∧
  ∀ (sp : Space) (rest : List Bool),
    sp ∈ [Space.sliceType, .mbI, .mbP, .mbB, .subP, .subB, .chromaMode, .sgMap, .pocType, .rplm, .mmco] →
    decode sp (List.replicate 32 false ++ rest) = .error .malformed 32

/-- Emulation-prevention removal undoes its insertion: every RBSP comes back, byte for byte (40_bitreader_nal.md R210). -/
def Obligations.EmulationPreventionUndone : Prop :=
  ∀ r : List Byte, stripEpb 0 (insertEpb 0 r) = r

/-- The stop bit is the last set bit of the RBSP, and there is none exactly when every byte is 0 (40_bitreader_nal.md R211). -/
def Obligations.StopBitIsLastSetBit : Prop :=
  ∀ r : List Byte,
    (∀ p, (Br.ofRbsp r).stopBit = some p ↔
      p < 8 * r.length ∧ (Br.ofRbsp r).bit p = true ∧ ∀ q, p < q → (Br.ofRbsp r).bit q = false) ∧
    ((Br.ofRbsp r).stopBit = none ↔ ∀ b ∈ r, b = 0) ∧
    (Br.ofRbsp r).rbsp = r ∧ (Br.ofRbsp r).cursor = 0

/-! ## Steps, commands and registers -/

/-- A step of the block's turn runs the operation that its next piece of work selects: the one of a computed value, the NAL header byte's, the one coded at the cursor, the one the CABAC engine yields, or the one of a kept command list; an act of the host is due before that, and a later one comes one step nearer. A macroblock or sub-macroblock type whose code does not decode, or whose bins the engine cannot give, raises its error. The cut of a command into steps and its pending work (log entry 1), the host's acts as a queue with delays (log entry 2) and the operations of single elements (log entry 8) are the model's choice; from the spec come where each code stands (40_bitreader_nal.md R220 step 4 for the header byte, 42_slice_header.md R301 for the slice type, 44_mb_syntax.md R430, R432; 45_cabac_syntax.md R511-R515 for the macroblock types) and the kept lists (42_slice_header.md R304, R306). -/
def Obligations.StepRunsTheDecodedOperation : Prop :=
  (∀ s sp v ts i n, s.due (.op sp v) ts → decode sp (codeBits sp v) = .ok i n → step s = exec i (s.taken ts)) ∧
  (∀ s ts i n, s.due (.fetch .nalHdr) ts → decode .nalHdr (natToBits 8 (s.byteAt s.csr.nalAddr.toNat).toNat) = .ok i n →
    step s = exec i (s.taken ts)) ∧
  (∀ s sp ts i n, sp ∈ [Space.mbI, .mbP, .mbB, .subP, .subB] → s.due (.fetch sp) ts → s.hdr.pps.cabac = false →
    decode sp (s.br.window 64) = .ok i n → step s = exec i ((s.taken ts).setBr (s.br.advance n))) ∧
  (∀ s sp ts e n, sp ∈ [Space.mbI, .mbP, .mbB, .subP, .subB] → s.due (.fetch sp) ts → s.hdr.pps.cabac = false →
    decode sp (s.br.window 64) = .error e n →
    step s = .next (((s.taken ts).setBr (s.br.advance n)).raise (DecodeError.err e))) ∧
  (∀ s ts i n, s.due (.fetch .sliceType) ts → decode .sliceType (s.br.window 64) = .ok i n →
    step s = exec i ((s.taken ts).setBr (s.br.advance n))) ∧
  (∀ s d ts, s.due (.fetch (.desc d)) ts → step s = exec (descOf d) (s.taken ts)) ∧
  (∀ s ts, s.due (.fetch .skipP) ts → step s = exec .pSkip (s.taken ts)) ∧
  (∀ s ts, s.due (.fetch .skipB) ts → step s = exec .bSkip (s.taken ts)) ∧
  (∀ s ts i n, s.due (.fetch .rplm) ts → decode .rplm (nextRplm s.wk).1 = .ok i n →
    step s = exec i ((s.taken ts).setWk (nextRplm s.wk).2)) ∧
  (∀ s ts i n, s.due (.fetch .mmco) ts → decode .mmco (nextMmco s.wk).1 = .ok i n →
    step s = exec i ((s.taken ts).setWk (nextMmco s.wk).2)) ∧
  (∀ s e q, s.host = (0, e) :: q → step s = hostEvent e (s.setHost q)) ∧
  (∀ s sp ts v p i n, sp ∈ [Space.mbI, .mbP, .mbB] → s.due (.fetch sp) ts → s.hdr.pps.cabac = true →
    aeMbType (s.taken ts) s.ps = .ok v p → decode sp (codeBits sp v) = .ok i n →
    step s = exec i ((s.taken ts).setPs p)) ∧
  (∀ s sp ts v p i n, sp ∈ [Space.subP, .subB] → s.due (.fetch sp) ts → s.hdr.pps.cabac = true →
    aeSubMbType (s.taken ts) s.ps = .ok v p → decode sp (codeBits sp v) = .ok i n →
    step s = exec i ((s.taken ts).setPs p)) ∧
  (∀ s sp ts e p, sp ∈ [Space.mbI, .mbP, .mbB] → s.due (.fetch sp) ts → s.hdr.pps.cabac = true →
    aeMbType (s.taken ts) s.ps = .error e p →
    step s = .next ((((s.taken ts).setBr p.br).setCabac p.cabac).raise e)) ∧
  (∀ s sp ts e p, sp ∈ [Space.subP, .subB] → s.due (.fetch sp) ts → s.hdr.pps.cabac = true →
    aeSubMbType (s.taken ts) s.ps = .error e p →
    step s = .next ((((s.taken ts).setBr p.br).setCabac p.cabac).raise e))

/-- Command acceptance: bit 0 alone decides SRST; else exactly one of bits 1..3 while not busy takes that command and clears CMD_ERR; any other write with a command bit sets CMD_ERR and takes nothing; one without a command bit does nothing (10_state.md R60, R62, R63). That the reserved bits 4 to 31 of the word are ignored is the model's choice (log entry 27). -/
def Obligations.CommandAcceptance : Prop :=
  ∀ (s : State) (w : Word) (q : List (Nat × HostEvent)), s.writes 4 w q →
    (w.getLsbD 0 = true → step s = exec .srst (s.setHost q)) ∧
    (w.getLsbD 0 = false →
      (s.csr.busy = false → w.getLsbD 1 = true → w.getLsbD 2 = false → w.getLsbD 3 = false →
        step s = exec .nal ((s.setHost q).setCsr { s.csr with cmdErr := false })) ∧
      (s.csr.busy = false → w.getLsbD 1 = false → w.getLsbD 2 = true → w.getLsbD 3 = false →
        step s = exec .auEnd ((s.setHost q).setCsr { s.csr with cmdErr := false })) ∧
      (s.csr.busy = false → w.getLsbD 1 = false → w.getLsbD 2 = false → w.getLsbD 3 = true →
        step s = exec .release ((s.setHost q).setCsr { s.csr with cmdErr := false })) ∧
      ((w.getLsbD 1 || w.getLsbD 2 || w.getLsbD 3) = true →
        (s.csr.busy = true ∨ (w.getLsbD 1 && w.getLsbD 2 || w.getLsbD 1 && w.getLsbD 3 || w.getLsbD 2 && w.getLsbD 3) = true) →
        step s = .next ((s.setHost q).setCsr { s.csr with cmdErr := true })) ∧
      ((w.getLsbD 1 || w.getLsbD 2 || w.getLsbD 3) = false → step s = .next (s.setHost q)))

/-- Writes of the other registers. While idle NAL_ADDR and FRAME_BASE keep `ADDR_W` bits, FRAME_BASE only while no frame is in use, REL_HANDLE eight bits; a read-only or unlisted offset ignores the write. While busy NAL_ADDR and NAL_LEN ignore it (10_state.md R60, R64, R68, R69). -/
def Obligations.RegisterWrites : Prop :=
  (∀ (s : State) (w : Word) (q : List (Nat × HostEvent)), s.csr.busy = false →
    (s.writes 0x08 w q →
      ∃ a : Word, a.toNat = w.toNat % 2 ^ s.params.addrW ∧ step s = .next ((s.setHost q).setCsr { s.csr with nalAddr := a })) ∧
    (s.writes 0x0C w q → step s = .next ((s.setHost q).setCsr { s.csr with nalLen := w })) ∧
    (s.writes 0x24 w q → ∃ h : Byte, h.toNat = w.toNat % 256 ∧ step s = .next ((s.setHost q).setCsr { s.csr with relHandle := h })) ∧
    (s.writes 0x28 w q → (∀ f ∈ s.fs, f.inUse = false) →
      ∃ a : Word, a.toNat = w.toNat % 2 ^ s.params.addrW ∧ step s = .next ((s.setHost q).setCsr { s.csr with frameBase := a })) ∧
    (s.writes 0x28 w q → (∃ f ∈ s.fs, f.inUse = true) → step s = .next (s.setHost q)) ∧
    (∀ off, off % 4 = 0 → off ∉ [0x04, 0x08, 0x0C, 0x24, 0x28] → s.writes off w q → step s = .next (s.setHost q))) ∧
  (∀ (s : State) (w : Word) (q : List (Nat × HostEvent)), s.csr.busy = true → s.writes 0x08 w q ∨ s.writes 0x0C w q →
    step s = .next (s.setHost q))

/-- Register reads: while idle each register of the list gives its value, CTRL and every offset not listed 0; while busy a read of a register that a command writes (STATUS, ERR_INFO, ERR_POS, OUT_FRAME, OUT_POC, NAL_COUNT) gives the value before the command, the value now or a free value, and the other registers read as always; reading changes nothing else (10_state.md R60-R70, 20_memory.md R108, 70_reset_and_hazards.md R867). The rule allows the value before the command, after it, or one set part-way: which values stand for these, and that each read draws one, is the model's choice (log entries 2 and 7). -/
def Obligations.RegisterReads : Prop :=
  (∀ (s : State) (off : Nat) (q : List (Nat × HostEvent)), s.csr.busy = false → off % 4 = 0 →
     s.host = (0, .regRead (s.params.regBase + off) 4) :: q →
     ∃ v : Word, step s = .next ((s.setHost q).setBus { s.bus with lastRead := v }) ∧
       (off = 0x00 → v = s.params.hwId) ∧ (off = 0x04 → v = 0) ∧ (off = 0x08 → v = s.csr.nalAddr) ∧
       (off = 0x0C → v = s.csr.nalLen) ∧ (off = 0x10 → v = s.csr.statusWord) ∧ (off = 0x14 → v = s.csr.errInfo) ∧
       (off = 0x18 → v = s.csr.errPos) ∧ (off = 0x1C → v = s.csr.outFrame) ∧ (off = 0x20 → v = s.csr.outPoc) ∧
       (off = 0x24 → v.toNat = s.csr.relHandle.toNat) ∧ (off = 0x28 → v = s.csr.frameBase) ∧
       (off = 0x2C → v = s.csr.nalCount) ∧ (off > 0x2C → v = 0)) ∧
  (∀ (s : State) (off : Nat) (q : List (Nat × HostEvent)), s.csr.busy = true →
     s.host = (0, .regRead (s.params.regBase + off) 4) :: q →
     (∀ old, (off = 0x10 ∧ old = s.bus.status) ∨ (off = 0x14 ∧ old = s.bus.errInfo) ∨ (off = 0x18 ∧ old = s.bus.errPos) ∨
         (off = 0x1C ∧ old = s.bus.outFrame) ∨ (off = 0x20 ∧ old = s.bus.outPoc) ∨ (off = 0x2C ∧ old = s.bus.nalCount) →
       ∃ v : Word, (v = old ∨ v = s.regValue off ∨ v = Config.freeWord s.freeCtr) ∧
         step s = .next (((s.setHost q).setBus { s.bus with lastRead := v }).drawn 1)) ∧
     (off % 4 = 0 → off ∉ [0x10, 0x14, 0x18, 0x1C, 0x20, 0x2C] →
       step s = .next ((s.setHost q).setBus { s.bus with lastRead := s.regValue off })))

/-- The layout of STATUS: every field at its bits, every reserved bit 0 (10_state.md R65). -/
def Obligations.StatusLayout : Prop :=
  ∀ c : Csr,
    c.statusWord.getLsbD 0 = c.busy ∧
    (c.statusWord.extractLsb' 1 3).toNat = (match c.fsm with | .idle => 0 | .created => 1 | .headerParsed => 2 | .decoding => 3 | .complete => 4) ∧
    c.statusWord.getLsbD 4 = c.auErr ∧ c.statusWord.getLsbD 5 = c.sliceErr ∧ c.statusWord.getLsbD 6 = c.warnIpcm ∧
    c.statusWord.getLsbD 7 = c.frameValid ∧ c.statusWord.getLsbD 8 = c.cmdErr ∧
    c.statusWord.extractLsb' 9 7 = 0 ∧ c.statusWord.extractLsb' 16 8 = c.errCode ∧ c.statusWord.extractLsb' 24 8 = 0

/-- What reset leaves where the spec gives a value: the rows of the table of values at reset (70_reset_and_hazards.md R850). -/
def Obligations.ResetLeaves : Prop :=
  let s := State.reset
  s.csr.nalAddr = 0 ∧ s.csr.nalLen = 0 ∧ s.csr.relHandle = 0 ∧ s.csr.frameBase = 0 ∧ s.csr.statusWord = 0 ∧
  s.csr.errInfo = 0xFFFFFFFF ∧ s.csr.errPos = 0 ∧ s.csr.outFrame = 0 ∧ s.csr.outPoc = 0 ∧ s.csr.nalCount = 0 ∧
  s.regValue 0 = s.params.hwId ∧
  s.sps = List.replicate 32 none ∧ s.pps = List.replicate 256 none ∧
  (∀ f ∈ s.fs, f.inUse = false ∧ f.held = false ∧ f.mark = .unused ∧ f.frameNum = 0 ∧ f.longTermFrameIdx = 0 ∧
    f.topPoc = 0 ∧ f.bottomPoc = 0 ∧ f.poc = 0 ∧ f.w = 0 ∧ f.h = 0 ∧ f.widthInMbs = 0 ∧ f.sizeInMbs = 0 ∧
    f.crop = ⟨0, 0, 0, 0⟩ ∧ f.isIdr = false ∧ f.hadMmco5 = false) ∧
  s.maxLongTermFrameIdx = none ∧
  s.au.curFrame = none ∧ s.au.failed = false ∧ s.au.sliceCount = 0 ∧ s.au.nalIndex = 0 ∧ s.au.ended = true ∧
  s.au.firstSlice = none ∧ s.au.prevPocMsb = 0 ∧ s.au.prevPocLsb = 0 ∧ s.au.prevFrameNumOffset = 0 ∧
  s.au.prevFrameNum = 0 ∧ s.au.prevRefHadMmco5 = false ∧ (∀ a, (s.mbInfoAt a).decoded = false) ∧
  s.sl = none ∧ s.br.rbsp = [] ∧ s.br.cursor = 0 ∧ s.br.stopBit = none ∧
  (∀ d ∈ s.dbk, d.mbs = [] ∧ d.slices = []) ∧ s.idle = true

/-- The reset state is sound: memory in canonical form, tables of their sizes, legal error registers and addresses (10_state.md R42-R44, R53, R64, R66, R69; 60_exceptions.md R812). -/
def Obligations.ResetIsSound : Prop := State.reset.Inv

/-- Every step that goes on keeps a sound state sound: memory in canonical form, the tables of their sizes, a legal error code with no error information without it, the address bits above `ADDR_W` 0 (20_memory.md R108; 10_state.md R42-R44, R53, R64, R66, R69; 60_exceptions.md R812). -/
def Obligations.StepKeepsSoundness : Prop := ∀ s t : State, s.Inv → step s = .next t → t.Inv

/-- No operation writes memory, and none but SRST changes what only the host writes or the number of table entries: the bytes of memory, the host's queue, NAL_ADDR, NAL_LEN, REL_HANDLE, FRAME_BASE, the parameters (20_memory.md R103, 10_state.md R41, R64, R68, R69). That no operation writes memory holds by the model's cut of a command (log entry 1): the write-back of a macroblock and the filling of an allocated frame, which do, are acts between the operations. -/
def Obligations.OperationsLeaveMemoryAlone : Prop :=
  ∀ (i : Instr) (s t : State), exec i s = .next t →
    (∀ a, t.byteAt a = s.byteAt a) ∧ t.params = s.params ∧ t.host = s.host ∧ t.fs.length = s.fs.length ∧
    t.dbk.length = s.dbk.length ∧
    (i ≠ .srst → t.csr.nalAddr = s.csr.nalAddr ∧ t.csr.nalLen = s.csr.nalLen ∧ t.csr.relHandle = s.csr.relHandle ∧
      t.csr.frameBase = s.csr.frameBase ∧ t.sps.length = s.sps.length ∧ t.pps.length = s.pps.length)

/-- SRST in any state: the registers, the tables, every frame's metadata, the access unit, the bit reader and the deblocker records take their reset values, no work is left; memory stays (70_reset_and_hazards.md R850, R851), and so do, by the model's choice (log entry 22), the frames' motion and the host's own state. -/
def Obligations.SoftReset : Prop :=
  ∀ s : State, ∃ t, exec .srst s = .next t ∧
    t.csr = Csr.reset ∧ t.csr.busy = false ∧ t.csr.cmdErr = false ∧ t.tasks = [] ∧
    t.sps = List.replicate 32 none ∧ t.pps = List.replicate 256 none ∧
    t.fs.length = s.fs.length ∧
    (∀ h, t.frame h = { Frame.free with motion := (s.frame h).motion }) ∧
    t.frame 0 = { inUse := false, held := false, mark := .unused, frameNum := 0, longTermFrameIdx := 0, topPoc := 0,
                     bottomPoc := 0, poc := 0, w := 0, h := 0, widthInMbs := 0, sizeInMbs := 0, crop := ⟨0, 0, 0, 0⟩, isIdr := false,
                     hadMmco5 := false, motion := (s.frame 0).motion } ∧
    t.maxLongTermFrameIdx = none ∧ t.savedPools = none ∧ t.au = Au.reset ∧ t.sl = none ∧ t.br = ⟨[], 0, none⟩ ∧
    (∀ d ∈ t.dbk, d = Dbk.empty) ∧ t.dbk.length = s.dbk.length ∧
    t.mem = s.mem ∧ t.params = s.params ∧ t.host = s.host ∧ t.bus = s.bus

/-- A NAL command. Its submission legal: busy, the access unit's status cleared and every macroblock not decoded when it is its first NAL unit, and the header byte to be fetched; nothing else changes, `OUT_FRAME` and `OUT_POC` among it. Too long or across the top of the address space records `E_UNSUPPORTED`, an empty one `E_BITS`; nothing is read and only the completion is left. The completion counts the NAL unit and ends the command (60_exceptions.md R813, R822, R830; 10_state.md R48; 40_bitreader_nal.md R220 steps 1-3, 7). -/
def Obligations.NalCommandRuns : Prop :=
  (∀ s : State, 1 ≤ s.csr.nalLen.toNat → s.csr.nalLen.toNat ≤ s.params.maxNalBytes →
     s.csr.nalAddr.toNat + s.csr.nalLen.toNat ≤ 2 ^ s.params.addrW →
     exec .nal s = .next { s with
       csr := if s.au.ended then
           { s.csr with busy := true, auErr := false, sliceErr := false, warnIpcm := false, frameValid := false,
                        errCode := 0, errInfo := 0xFFFFFFFF, errPos := 0 }
         else { s.csr with busy := true }
       au := { s.au with ended := false, mbInfo := if s.au.ended then [] else s.au.mbInfo }
       bus := { s.bus with status := s.csr.statusWord, errInfo := s.csr.errInfo, errPos := s.csr.errPos,
                            outFrame := s.csr.outFrame, outPoc := s.csr.outPoc, nalCount := s.csr.nalCount }
       tasks := [.fetch .nalHdr, .nalDone] }) ∧
  (∀ s : State, ∃ t, exec .nal s = .next t ∧
     ((s.csr.nalLen.toNat > s.params.maxNalBytes ∨ s.csr.nalAddr.toNat + s.csr.nalLen.toNat > 2 ^ s.params.addrW) →
       t.tasks = [.nalDone] ∧ (s.au.ended = true ∨ s.csr.errCode = 0 → t.csr.errCode = 3) ∧
       (s.au.ended = false → s.csr.errCode ≠ 0 → t.csr.errCode = s.csr.errCode)) ∧
     (s.csr.nalLen = 0 → s.csr.nalAddr.toNat ≤ 2 ^ s.params.addrW →
       t.tasks = [.nalDone] ∧ (s.au.ended = true ∨ s.csr.errCode = 0 → t.csr.errCode = 1)) ∧
     t.csr.busy = true ∧ t.csr.sliceErr = (s.csr.sliceErr && !s.au.ended) ∧ t.au = { s.au with ended := false, mbInfo := if s.au.ended then [] else s.au.mbInfo } ∧
     t.sps = s.sps ∧ t.pps = s.pps ∧ t.fs = s.fs ∧ t.br = s.br ∧ t.csr.nalCount = s.csr.nalCount ∧ t.csr.cmdErr = s.csr.cmdErr) ∧
  (∀ (s : State) (ts : List Task), s.due .nalDone ts →
     step s = .next { s.taken ts with
       au := { s.au with nalIndex := s.au.nalIndex + 1 }
       csr := { s.csr with nalCount := s.csr.nalCount + 1, busy := false } })

/-- RELEASE: a handle past the frames sets CMD_ERR and changes nothing else; otherwise the frame is no longer held, and free if it is unmarked and not the current one; no other frame and nothing else changes (10_state.md R72). -/
def Obligations.ReleaseFreesTheFrame : Prop :=
  ∀ s : State,
    (s.csr.relHandle.toNat ≥ s.params.numFrames → exec .release s = .next (s.setCsr { s.csr with cmdErr := true })) ∧
    (s.csr.relHandle.toNat < s.params.numFrames →
      ∃ t, exec .release s = .next t ∧ t = s.setFs t.fs ∧ sameFramesBut s t s.csr.relHandle.toNat ∧
        t.frame s.csr.relHandle.toNat =
          { s.frame s.csr.relHandle.toNat with
              held := false
              inUse := if (s.frame s.csr.relHandle.toNat).mark = .unused ∧ s.au.curFrame ≠ some s.csr.relHandle.toNat
                then false else (s.frame s.csr.relHandle.toNat).inUse })

/-- AU_END up to the marking, in every state. Of a failed access unit AU_ERR is set and its frame freed, and the pools that an IDR picture emptied are as before (log entry 19). Without a picture nothing happens; a non-reference picture is not marked; an IDR picture is marked long-term with index 0 or short-term; a picture with marking operations has them queued; any other is marked short-term, after the short-term frames with the smallest `FrameNumWrap` lost their mark, one by one, while the marked frames are as many as the bound, and no more of them. In every case the command is busy and its end is queued (43_slice_fsm.md R390 steps 1-4; 49_reflist.md R760, R770-R772, R781; 60_exceptions.md R824). -/
def Obligations.AuEndStarts : Prop :=
  ∀ s : State, ∃ t, exec .auEnd s = .next t ∧ t.csr.busy = true ∧ t.au = s.au ∧ t.mem = s.mem ∧
    (s.au.failed = true →
      t.csr.auErr = true ∧ t.tasks = [.auEndFinish] ∧ t.fs.length = s.fs.length ∧
      (∀ h, s.au.curFrame = some h → h < s.fs.length → (t.frame h).inUse = false) ∧
      (s.savedPools = none → t.maxLongTermFrameIdx = s.maxLongTermFrameIdx ∧ (s.au.curFrame = none → t.fs = s.fs) ∧
        (∀ h, s.au.curFrame = some h → h < s.fs.length → sameFramesBut s t h ∧ t.frame h = { s.frame h with inUse := false })) ∧
      (∀ p, s.savedPools = some p → t.maxLongTermFrameIdx = p.maxLong ∧
        ∀ g, g < s.fs.length → s.au.curFrame ≠ some g → t.frame g =
          if p.marks.getD g .unused = .unused then s.frame g else { s.frame g with mark := p.marks.getD g .unused, inUse := true })) ∧
    (s.au.failed = false → s.au.curFrame = none →
      t = (s.setBusy).setTasks [.auEndFinish]) ∧
    (∀ h, s.au.failed = false → s.au.curFrame = some h → h < s.fs.length →
      (s.first.nalRefIdc = 0 → t.fs = s.fs ∧ t.tasks = [.auEndFinish]) ∧
      (s.first.nalRefIdc ≠ 0 → s.first.nalType = 5 → t.tasks = [.auEndFinish] ∧ sameFramesBut s t h ∧
        (s.first.longTermReference = true →
          t.frame h = { s.frame h with mark := .longTerm, longTermFrameIdx := 0 } ∧ t.maxLongTermFrameIdx = some 0) ∧
        (s.first.longTermReference = false →
          t.frame h = { s.frame h with mark := .shortTerm } ∧ t.maxLongTermFrameIdx = s.maxLongTermFrameIdx)) ∧
      (s.first.nalRefIdc ≠ 0 → s.first.nalType ≠ 5 → s.first.adaptiveMarking = true →
        t.tasks = [.fetch .mmco, .auEndFinish] ∧ t.wk.mmcoLeft = s.first.mmcos ∧ t.wk.curLong = false ∧ t.fs = s.fs) ∧
      (s.first.nalRefIdc ≠ 0 → s.first.nalType ≠ 5 → s.first.adaptiveMarking = false →
        let marked (fs : List Frame) : Nat := (fs.filter fun f => decide (f.mark ≠ .unused)).length
        let bound := max s.first.sps.maxNumRefFrames 1
        let wrap (g : Nat) : Int := if (s.frame g).frameNum > s.first.frameNum then
          ((s.frame g).frameNum : Int) - s.first.sps.maxFrameNum else (s.frame g).frameNum
        t.tasks = [.auEndFinish] ∧ (t.frame h).mark = .shortTerm ∧ t.fs.length = s.fs.length ∧
        t.maxLongTermFrameIdx = s.maxLongTermFrameIdx ∧
        ((s.frame h).hadMmco5 = false → t.frame h = { s.frame h with mark := .shortTerm }) ∧
        (∀ g, g ≠ h → t.frame g = s.frame g ∨ ((s.frame g).mark = .shortTerm ∧ t.frame g = s.unmarkedFrame g)) ∧
        (marked t.fs ≤ bound ∨ ∀ g, g ≠ h → (t.frame g).mark ≠ .shortTerm) ∧
        (∀ g, g ≠ h → (s.frame g).mark = .shortTerm → (t.frame g).mark = .unused →
          marked t.fs + (if (s.frame h).mark = .unused then 0 else 1) ≥ bound ∧
          ∀ k, k ≠ h → (t.frame k).mark = .shortTerm → wrap g ≤ wrap k)))

/-- The end of a successful AU_END: the frame is held and its handle and POC output, every frame unmarked and not held is freed, the deblocker's record handed over, the access unit cleared, and the block idle again (43_slice_fsm.md R390 steps 4-5). That OUT_FRAME shows the low eight bits of a handle above 255, and that the whole handle is kept beside it, is the model's choice (log entry 40). -/
def Obligations.AuEndOutputsTheFrame : Prop :=
  ∀ (s : State) (ts : List Task) (h : Nat), s.due .auEndFinish ts → s.au.failed = false → s.au.curFrame = some h →
    h < s.fs.length →
    ∃ t, step s = .next t ∧
      t.csr = { s.csr with outFrame := BitVec.ofNat 32 (h % 256), outHandle := h, outPoc := BitVec.ofInt 32 (s.frame h).poc,
                           frameValid := true,
                           fsm := .idle, busy := false } ∧
      t.frame h = { s.frame h with held := true } ∧
      (∀ g, g ≠ h → t.frame g =
        if (s.frame g).mark = .unused ∧ (s.frame g).held = false then { s.frame g with inUse := false } else s.frame g) ∧
      (∀ d, s.dbk[h]? = some d → t.dbk[h]? = some { d with handedOver := true }) ∧
      t.au.curFrame = none ∧ t.au.failed = false ∧ t.au.sliceCount = 0 ∧ t.au.nalIndex = 0 ∧ t.au.firstSlice = none ∧
      t.au.ended = true ∧ t.tasks = ts ∧ t.mem = s.mem ∧ t.sps = s.sps ∧ t.pps = s.pps ∧
      t.maxLongTermFrameIdx = s.maxLongTermFrameIdx

/-- The POC history after a successful AU_END: of a reference picture whether it had operation 5 and the msb and lsb that POC type 0 predicts from, of every picture the frame number offset and frame number; a failed access unit or one without a picture leaves it (49_reflist.md R750). That the offset is kept after a picture of POC type 0 too, as the offset rule of the other types gives it, is the model's choice (log entry 17); so is that prevPocMsb, prevPocLsb and prevFrameNumOffset keep the exact integer in every state, where 10_state.md gives the fields signed 32 bits (log entry 41). -/
def Obligations.PocHistory : Prop :=
  ∀ (s : State) (ts : List Task), s.due .auEndFinish ts →
    ∃ t, step s = .next t ∧
      (∀ h, s.au.failed = false → s.au.curFrame = some h → h < s.fs.length →
        (s.first.nalRefIdc ≠ 0 → t.au.prevRefHadMmco5 = (s.frame h).hadMmco5) ∧
        (s.first.nalRefIdc ≠ 0 → (s.frame h).hadMmco5 = true →
          t.au.prevPocMsb = 0 ∧ t.au.prevPocLsb = (s.frame h).topPoc) ∧
        (s.first.nalRefIdc ≠ 0 → (s.frame h).hadMmco5 = false → s.first.sps.pocType = 0 →
          t.au.prevPocMsb = (pocType0 s.au s.first).msb ∧ t.au.prevPocLsb = s.first.pocLsb) ∧
        (s.first.nalRefIdc = 0 → t.au.prevRefHadMmco5 = s.au.prevRefHadMmco5 ∧ t.au.prevPocMsb = s.au.prevPocMsb ∧
          t.au.prevPocLsb = s.au.prevPocLsb) ∧
        t.au.prevFrameNum = (if (s.frame h).hadMmco5 then 0 else s.first.frameNum) ∧
        t.au.prevFrameNumOffset = (if (s.frame h).hadMmco5 then 0 else frameNumOffset s.au s.first)) ∧
      (s.au.failed = true ∨ s.au.curFrame = none →
        t.au.prevRefHadMmco5 = s.au.prevRefHadMmco5 ∧ t.au.prevPocMsb = s.au.prevPocMsb ∧ t.au.prevPocLsb = s.au.prevPocLsb ∧
        t.au.prevFrameNum = s.au.prevFrameNum ∧ t.au.prevFrameNumOffset = s.au.prevFrameNumOffset)

/-! ## Errors -/

/-- Recording an error: only the first of an access unit is kept, with its code, the NAL unit's index, the macroblock in progress or 0xFFFF, and the bit position; nothing else changes (60_exceptions.md R813, 10_state.md R66). That an index or address of more than 16 bits, or a position of more than 32, keeps its low bits is the model's choice (log entry 34). -/
def Obligations.FirstErrorIsLatched : Prop :=
  ∀ (s : State) (e : ErrCode),
    s.record e = s.setCsr (s.csr.latched
      (match e with | .bits => 1 | .invalid => 2 | .unsupported => 3 | .psMissing => 4 | .noFrame => 5 | .mark => 6)
      s.au.nalIndex (if s.csr.fsm = .decoding then s.ds.currMbAddr else 0xFFFF) s.br.cursor) ∧
    s.markError = s.setCsr (s.csr.latched 6 s.au.nalIndex (if s.csr.fsm = .decoding then s.ds.currMbAddr else 0xFFFF) 0)

/-- Taking an error: in a slice, `E_PS_MISSING` and `E_NO_FRAME` fail the access unit and every other code (but `E_MARK`, which no slice raises) aborts the slice; the slice's header and state and the macroblock in progress are discarded and the state machine is Complete; outside a slice nothing but the record changes. All pending work but the completion of a busy command is dropped; memory, frames, tables, macroblock information and deblocker records stay (60_exceptions.md R810, R820-R823). What the discarded records then hold is the model's choice: the slice's state its reset values (log entry 37), the macroblock record the cleared one (log entry 4). -/
def Obligations.ErrorScopes : Prop :=
  ∀ (s : State) (e : ErrCode), let t := s.raise e
    t.tasks = (if s.csr.busy then [.nalDone] else []) ∧ t.csr.errCode = (s.record e).csr.errCode ∧
    t.csr.errInfo = (s.record e).csr.errInfo ∧ t.csr.errPos = (s.record e).csr.errPos ∧
    (s.csr.fsm = .created ∨ s.csr.fsm = .headerParsed ∨ s.csr.fsm = .decoding →
      t.csr.fsm = .complete ∧ t.sl = none ∧ t.ds = Ds.reset ∧ t.mb = MbRec.cleared ∧
      (e = .psMissing ∨ e = .noFrame → t.au = { s.au with failed := true } ∧ t.csr.sliceErr = s.csr.sliceErr) ∧
      (e ≠ .psMissing → e ≠ .noFrame → e ≠ .mark → t.au = s.au ∧ t.csr.sliceErr = true)) ∧
    (s.csr.fsm = .idle ∨ s.csr.fsm = .complete → t = (s.record e).setTasks t.tasks) ∧
    t.mem = s.mem ∧ t.fs = s.fs ∧ t.sps = s.sps ∧ t.pps = s.pps ∧ t.dbk = s.dbk ∧ t.au.mbInfo = s.au.mbInfo ∧
    t.csr.busy = s.csr.busy ∧ t.maxLongTermFrameIdx = s.maxLongTermFrameIdx ∧ t.savedPools = s.savedPools

/-! ## NAL units -/

/-- The NAL units that do nothing. The 28 ignored types: the RBSP is built and nothing else happens. `forbidden_zero_bit = 1`: the unit is discarded and `E_INVALID` recorded, which does not fail the access unit (30_encoding.md R145, R146; 40_bitreader_nal.md R210, R220 steps 4-6). The position recorded for it, the cursor that the NAL unit before left, is the model's choice (log entry 28). -/
def Obligations.DiscardedNalUnits : Prop :=
  (∀ p ∈ ignoredNalOps, ∀ (r : BitVec 2) (s : State), ∃ t, exec (p.1 r) s = .next t ∧
     t.br = Br.ofRbsp (stripEpb 0 ((List.range (s.csr.nalLen.toNat - 1)).map fun i => s.byteAt (s.csr.nalAddr.toNat + 1 + i))) ∧
     t = (s.setBr t.br).setWk { s.wk with nalType := p.2, nalRefIdc := r.toNat }) ∧
  (∀ (b : BitVec 7) (s : State),
     exec (.nalForbidden b) s =
       .next (s.setCsr (s.csr.latched 2 s.au.nalIndex (if s.csr.fsm = .decoding then s.ds.currMbAddr else 0xFFFF) s.br.cursor)))

/-- An SPS or PPS NAL unit whose parse succeeds replaces the entry of its id and no other, whether or not a PPS's SPS exists; one whose parse fails leaves the tables and records the error; neither fails the access unit nor touches a frame (41_parameter_sets.md R240, R250). -/
def Obligations.ParameterSetsStoredById : Prop :=
  (∀ (r : BitVec 2) (s : State),
     (∀ sps p, readSps { s.ps with br := Br.ofRbsp (stripEpb 0 s.payload) } = .ok sps p →
       ∃ t, exec (.nalSps r) s = .next t ∧ (sps.id < s.sps.length → t.sps[sps.id]? = some (some sps)) ∧
         (∀ i, i ≠ sps.id → t.sps[i]? = s.sps[i]?) ∧
         t.pps = s.pps ∧ t.fs = s.fs ∧ t.au = s.au ∧ t.csr = s.csr ∧ t.tasks = s.tasks ∧ t.mem = s.mem) ∧
     (∀ e p, readSps { s.ps with br := Br.ofRbsp (stripEpb 0 s.payload) } = .error e p → s.inSlice = false →
       ∃ t, exec (.nalSps r) s = .next t ∧ t.sps = s.sps ∧ t.pps = s.pps ∧ t.fs = s.fs ∧ t.au = s.au ∧
         t.csr = s.csr.latched e.code s.au.nalIndex 0xFFFF p.br.cursor ∧ t.tasks = (if s.csr.busy then [.nalDone] else []))) ∧
  (∀ (r : BitVec 2) (s : State),
     (∀ pps p, readPps s { s.ps with br := Br.ofRbsp (stripEpb 0 s.payload) } = .ok pps p →
       ∃ t, exec (.nalPps r) s = .next t ∧ (pps.id < s.pps.length → t.pps[pps.id]? = some (some pps)) ∧
         (∀ i, i ≠ pps.id → t.pps[i]? = s.pps[i]?) ∧
         t.sps = s.sps ∧ t.fs = s.fs ∧ t.au = s.au ∧ t.csr = s.csr ∧ t.tasks = s.tasks ∧ t.mem = s.mem) ∧
     (∀ e p, readPps s { s.ps with br := Br.ofRbsp (stripEpb 0 s.payload) } = .error e p → s.inSlice = false →
       ∃ t, exec (.nalPps r) s = .next t ∧ t.sps = s.sps ∧ t.pps = s.pps ∧ t.fs = s.fs ∧ t.au = s.au ∧
         t.csr = s.csr.latched e.code s.au.nalIndex 0xFFFF p.br.cursor ∧ t.tasks = (if s.csr.busy then [.nalDone] else [])))

/-- A slice NAL unit: in a failed access unit it is not parsed and the state machine is Complete; otherwise it is Created, a new slice header is opened with the NAL unit's type and `nal_ref_idc`, and pass 1 of its header is next (43_slice_fsm.md R361). -/
def Obligations.SliceNalUnit : Prop :=
  ∀ (i : Instr) (n : Nat) (r : BitVec 2) (s : State), (i = .nalSlice r ∧ n = 1) ∨ (i = .nalIdr r ∧ n = 5) →
    ∃ t, exec i s = .next t ∧ t.br = Br.ofRbsp (stripEpb 0 s.payload) ∧ t.fs = s.fs ∧ t.au = s.au ∧ t.mem = s.mem ∧
      t.sps = s.sps ∧ t.pps = s.pps ∧
      (s.au.failed = true → t.csr = { s.csr with fsm := .complete } ∧ t.sl = none ∧ t.tasks = s.tasks) ∧
      (s.au.failed = false → t.csr = { s.csr with fsm := .created } ∧
        t.sl = some { SliceHdr.empty with nalType := n, nalRefIdc := r.toNat } ∧
        t.tasks = [.fetch (.desc .ue), .firstMb, .fetch .sliceType, .sliceHeader] ++ s.tasks)

/-! ## Slices -/

/-- The ten slice types: each keeps its `slice_type` in the slice header in progress and changes nothing else (30_encoding.md R147, 42_slice_header.md R301). -/
def Obligations.SliceTypesKept : Prop :=
  ∀ p ∈ sliceTypeOps, ∀ s : State,
    exec p.1 s = .next (s.setSl (s.sl.map fun h => { h with sliceType := p.2 }))

/-- After the header: an SP or SI slice raises `E_UNSUPPORTED`; a redundant slice ends without error; any other is HeaderParsed with its frame allocation (first slice only), its reference lists (P and B slices) and its start queued, in that order (42_slice_header.md R308, 43_slice_fsm.md R360-R364). -/
def Obligations.HeaderOutcome : Prop :=
  ∀ (s : State) (ts : List Task) (h : SliceHdr) (p : Ps), s.due .sliceHeader ts →
    readHeader (s.taken ts) s.hdr s.ps = .ok h p →
    (h.sliceType % 5 = 3 ∨ h.sliceType % 5 = 4 → step s = .next ((((s.taken ts).setPs p).setSl (some h)).raise .unsupported)) ∧
    (h.sliceType % 5 < 3 → h.redundantPicCnt > 0 → ∃ t, step s = .next t ∧ t.csr = { s.csr with fsm := .complete } ∧
      t.sl = none ∧ t.tasks = ts ∧ t.fs = s.fs ∧ t.au = s.au ∧ t.mem = s.mem) ∧
    (h.sliceType % 5 < 3 → h.redundantPicCnt = 0 → ∃ t, step s = .next t ∧ t.csr = { s.csr with fsm := .headerParsed } ∧
      t.sl = some h ∧ t.fs = s.fs ∧ t.au = s.au ∧ t.mem = s.mem ∧
      t.tasks = (if s.au.curFrame = none then [Task.alloc] else []) ++
        (if h.sliceType % 5 = 2 then [] else [Task.lists] ++ (if h.modFlag0 then [.rplmStart 0, .fetch .rplm] else []) ++
          (if h.modFlag1 then [.rplmStart 1, .fetch .rplm] else [])) ++ [Task.initSlice] ++ ts)

/-- Frame allocation: with no free frame `E_NO_FRAME` is raised; otherwise the lowest free handle is chosen, an IDR picture empties the reference pools first, what they were being kept while its access unit may fail, and the POC of the SPS's type is computed before the frame is filled (43_slice_fsm.md R362; 49_reflist.md R754, R771 step 1; 60_exceptions.md R824). That the handle is chosen and `E_NO_FRAME` raised before the pools are emptied is the model's choice (log entry 19). -/
def Obligations.AllocationChoosesTheLowestFreeFrame : Prop :=
  ∀ (s : State) (ts : List Task), s.due .alloc ts →
    ((∀ f ∈ s.fs, f.inUse = true) → step s = .next ((s.taken ts).raise .noFrame)) ∧
    (∀ h, h < s.fs.length → (s.frame h).inUse = false → (∀ g, g < h → (s.frame g).inUse = true) →
      ∃ t, step s = .next t ∧ t.tasks = [.op .pocType s.hdr.sps.pocType, .allocFinish h] ++ ts ∧ t.mem = s.mem ∧ t.au = s.au ∧
        (s.hdr.nalType ≠ 5 → t.fs = s.fs ∧ t.maxLongTermFrameIdx = s.maxLongTermFrameIdx ∧ t.savedPools = s.savedPools) ∧
        (s.hdr.nalType = 5 → t.maxLongTermFrameIdx = none ∧
          t.savedPools = some ⟨s.fs.map (·.mark), s.maxLongTermFrameIdx⟩ ∧
          ∀ g, g < s.fs.length → t.frame g = if (s.frame g).mark = .unused then s.frame g else s.unmarkedFrame g))

/-- Filling the chosen frame: the metadata from the slice and its SPS, the access unit's current frame and first slice, every macroblock of the picture not decoded, every sample a free value and every other byte of memory as it was (43_slice_fsm.md R362, R386; 20_memory.md R102; log entry 3). An address outside the memory port stops with a fault: the host has broken its duty (70_reset_and_hazards.md R860), and the stop is the model's choice (log entry 9). -/
def Obligations.AllocationFillsTheFrame : Prop :=
  ∀ (s : State) (ts : List Task) (h : Nat), s.due (.allocFinish h) ts → h < s.fs.length →
    let start := s.csr.frameBase.toNat + h * (384 * s.params.maxWidthMbs * s.params.maxHeightMbs)
    let stop := start + 384 * s.hdr.sps.sizeInMbs
    (stop > 2 ^ s.params.addrW → step s = .fault .frameStoreOutOfSpace) ∧
    (stop ≤ 2 ^ s.params.addrW →
      ∃ t, step s = .next t ∧ sameFramesBut s t h ∧ t.csr = s.csr ∧
        (Mem.wf s.mem = true → ∀ a, t.byteAt a = if start ≤ a ∧ a < stop then Config.freeSample s.freeCtr a else s.byteAt a) ∧
        (t.frame h).inUse = true ∧ (t.frame h).held = false ∧ (t.frame h).mark = .unused ∧
        (t.frame h).frameNum = s.hdr.frameNum ∧ (t.frame h).topPoc = s.wk.topPoc ∧ (t.frame h).bottomPoc = s.wk.bottomPoc ∧
        (t.frame h).poc = min s.wk.topPoc s.wk.bottomPoc ∧
        (t.frame h).w = 16 * (s.hdr.sps.widthInMbsMinus1 + 1) ∧ (t.frame h).h = 16 * (s.hdr.sps.heightInMapUnitsMinus1 + 1) ∧
        (t.frame h).widthInMbs = s.hdr.sps.widthInMbsMinus1 + 1 ∧
        (t.frame h).sizeInMbs = (s.hdr.sps.widthInMbsMinus1 + 1) * (s.hdr.sps.heightInMapUnitsMinus1 + 1) ∧
        (t.frame h).crop = s.hdr.sps.crop ∧ (t.frame h).isIdr = decide (s.hdr.nalType = 5) ∧ (t.frame h).hadMmco5 = false ∧
        t.au.curFrame = some h ∧ t.au.firstSlice = some s.hdr ∧ (∀ a, (t.mbInfoAt a).decoded = false) ∧
        (∀ d ∈ t.dbk[h]?, d.slices = [] ∧ ∀ m ∈ d.mbs, m.decoded = false) ∧
        (s.hdr.pps.numSliceGroupsMinus1 > 0 → t.tasks = .op .sgMap s.hdr.pps.mapType :: ts) ∧
        (s.hdr.pps.numSliceGroupsMinus1 = 0 → t.tasks = ts ∧ ∀ a, a < s.hdr.sps.sizeInMbs → t.au.map[a]? = some 0))

/-- The start of a slice: the initial QP, address and flags, the slice's number and its deblocker record, and the macroblock loop begins. With CABAC first come the alignment, every context from the slice type or `cabac_init_idc` and `SliceQPY`, and the engine with range 510 and nine bits of offset; an RBSP that ends inside them raises `E_BITS` at the aligned position (43_slice_fsm.md R364, R387; 45_cabac_syntax.md R500, R501). That this error names no macroblock is the model's choice (log entry 30), and so is the codeword that is kept for an engine that is an oracle (log entry 45). -/
def Obligations.SliceStarts : Prop :=
  ∀ (s : State) (ts : List Task), s.due .initSlice ts →
    let qp : Int := 26 + s.hdr.pps.picInitQpMinus26 + s.hdr.sliceQpDelta
    let started (t : State) : Prop :=
      t.ds.qpY = qp ∧ t.ds.qpYPrev = qp ∧
      t.ds.currMbAddr = s.hdr.firstMb ∧ t.ds.prevMbQpDeltaNonZero = false ∧ t.ds.prevMbSkipped = false ∧
      t.ds.skipRunLeft = 0 ∧ t.ds.mbCount = 0 ∧ t.ds.sliceNum = s.au.sliceCount ∧
      t.au = { s.au with sliceCount := s.au.sliceCount + 1 } ∧ t.csr = { s.csr with fsm := .decoding } ∧
      t.tasks = .loopTop :: ts ∧ t.sl = s.sl ∧ t.fs = s.fs ∧ t.mem = s.mem ∧
      (∀ h d, s.au.curFrame = some h → s.dbk[h]? = some d → t.dbk[h]? = some { d with
        slices := d.slices ++ [⟨s.au.sliceCount, s.hdr.sliceType, s.hdr.disableDeblockingIdc, s.hdr.alphaOffsetDiv2 * 2,
          s.hdr.betaOffsetDiv2 * 2, s.hdr.pps.chromaQpOffset, s.hdr.pps.secondChromaQpOffset⟩] })
    let start := s.br.cursor + (8 - s.br.cursor % 8) % 8
    let byte (j : Nat) : Nat := (s.br.rbsp.getD (start / 8 + j) 0).toNat
    let initType := if s.hdr.sliceType % 5 = 2 then 0 else s.hdr.cabacInitIdc + 1
    let pre (i : Nat) : Int := max 1 (min 126
      ((Config.cabacInitMN initType i).1 * max 0 (min 51 qp) / 16 + (Config.cabacInitMN initType i).2))
    (s.hdr.pps.cabac = false → ∃ t, step s = .next t ∧ started t ∧ t.br = s.br ∧ t.cabac = s.cabac) ∧
    (s.hdr.pps.cabac = true → start + 9 ≤ 8 * s.br.rbsp.length → ∃ t, step s = .next t ∧ started t ∧
      t.br = { s.br with cursor := start + 9 } ∧ t.cabac.range = 510 ∧ t.cabac.offset.toNat = 2 * byte 0 + byte 1 / 128 ∧
      t.cabac.codeword = ⟨t.cabac.ctx, 510, start + 9⟩ ∧ t.cabac.ctx.length = 460 ∧
      ∀ i, i < 460 → t.cabac.ctx[i]? = some (if i = 276 then ⟨63, 0⟩
        else if pre i ≤ 63 then ⟨(63 - pre i).toNat, 0⟩ else ⟨(pre i - 64).toNat, 1⟩)) ∧
    (s.hdr.pps.cabac = true → s.br.cursor ≤ 8 * s.br.rbsp.length → start + 9 > 8 * s.br.rbsp.length →
      s.csr.fsm = .headerParsed → ∃ t, step s = .next t ∧
        t.csr = { s.csr.latched 1 s.au.nalIndex 0xFFFF start with sliceErr := true, fsm := .complete } ∧
        t.tasks = (if s.csr.busy then [.nalDone] else []) ∧ t.sl = none ∧ t.fs = s.fs ∧ t.mem = s.mem)

/-- The next macroblock address is the smallest larger one of the same slice group, and there is none exactly when no larger one of the group exists (43_slice_fsm.md R367). -/
def Obligations.NextMacroblockAddress : Prop :=
  ∀ (map : List Nat) (size n : Nat),
    (∀ i, nextMbAddress map size n = some i ↔
      n < i ∧ i < size ∧ map.getD i 0 = map.getD n 0 ∧ ∀ j, n < j → j < i → map.getD j 0 ≠ map.getD n 0) ∧
    (nextMbAddress map size n = none ↔ ∀ i, n < i → i < size → map.getD i 0 ≠ map.getD n 0)

/-- The slice-group map operations, each for the slice in progress and leaving all else alone; `m` is the map built, one entry per macroblock (43_slice_fsm.md R366; type 3: R368). In the map of type 3 as many units as `MapUnitsInSliceGroup0` says are in group 0, and they are the ones that the box-out walk comes by first. -/
def Obligations.SliceGroupMaps : Prop :=
  ∀ s : State, let a := s.hdr.mapArgs
    let sizeUl := if a.dir = 1 then a.wm * a.hm - a.u0 else a.u0
    (∃ m, exec .sgmap0Interleaved s = .next (s.setAu { s.au with map := m }) ∧ m.length = a.wm * a.hm ∧
      let runs (g : Nat) : Nat := ((List.range g).map fun j => a.pps.runLengthMinus1.getD j 0 + 1).sum
      (∀ i g, g < a.n → i < a.wm * a.hm → runs g ≤ i → i < runs (g + 1) → m[i]? = some g) ∧
      ∀ i, runs a.n ≤ i → i < a.wm * a.hm → m[i]? = m[i - runs a.n]?) ∧
    (∃ m, exec .sgmap1Dispersed s = .next (s.setAu { s.au with map := m }) ∧ m.length = a.wm * a.hm ∧
      ∀ i, i < a.wm * a.hm → m[i]? = some ((i % a.wm + i / a.wm * a.n / 2) % a.n)) ∧
    (∃ m, exec .sgmap2Foreground s = .next (s.setAu { s.au with map := m }) ∧ m.length = a.wm * a.hm ∧
      ∀ i, i < a.wm * a.hm → ∃ g, m[i]? = some g ∧ g ≤ a.n - 1 ∧
        ∀ k, k < a.n - 1 →
          ((a.pps.topLeft.getD k 0 / a.wm ≤ i / a.wm ∧ i / a.wm ≤ a.pps.bottomRight.getD k 0 / a.wm ∧
            a.pps.topLeft.getD k 0 % a.wm ≤ i % a.wm ∧ i % a.wm ≤ a.pps.bottomRight.getD k 0 % a.wm) →
            g ≤ k) ∧
          (g = k → a.pps.topLeft.getD k 0 / a.wm ≤ i / a.wm ∧ i / a.wm ≤ a.pps.bottomRight.getD k 0 / a.wm ∧
            a.pps.topLeft.getD k 0 % a.wm ≤ i % a.wm ∧ i % a.wm ≤ a.pps.bottomRight.getD k 0 % a.wm)) ∧
    (∃ m, exec .sgmap3BoxOut s = .next (s.setAu { s.au with map := m }) ∧ m.length = a.wm * a.hm ∧ m.count 0 = a.u0 ∧
      ∃ n, ∀ i, i < a.wm * a.hm → m[i]? = some (if i ∈ boxOutUnits a.wm a.hm a.dir n then 0 else 1)) ∧
    (∃ m, exec .sgmap4Raster s = .next (s.setAu { s.au with map := m }) ∧ m.length = a.wm * a.hm ∧
      ∀ i, i < a.wm * a.hm → m[i]? = some (if i < sizeUl then a.dir else 1 - a.dir)) ∧
    (∃ m, exec .sgmap5Wipe s = .next (s.setAu { s.au with map := m }) ∧ m.length = a.wm * a.hm ∧
      ∀ i j, i < a.hm → j < a.wm → m[i * a.wm + j]? = some (if j * a.hm + i < sizeUl then a.dir else 1 - a.dir)) ∧
    (∃ m, exec .sgmap6Explicit s = .next (s.setAu { s.au with map := m }) ∧ m.length = a.wm * a.hm ∧
      ∀ i, i < a.wm * a.hm → m[i]? = some (a.pps.sliceGroupId.getD i 0))

/-- The POC of each type is kept for the frame to be allocated; a top or bottom value that is no signed 32-bit number raises `E_INVALID`, with the reference pools as they were before an IDR picture emptied them (49_reflist.md R751-R753, R755; 60_exceptions.md R823; log entry 19). FrameNumOffset is R752's for all three types (log entry 17). -/
def Obligations.PictureOrderCount : Prop :=
  ∀ s : State, let h := s.hdr
    let idr := decide (h.nalType = 5)
    let fno : Int := if idr then 0 else if s.au.prevFrameNum > h.frameNum then s.au.prevFrameNumOffset + h.sps.maxFrameNum
      else s.au.prevFrameNumOffset
    let keeps (i : Instr) (top bottom msb : Int) : Prop :=
      (-2147483648 ≤ top ∧ top ≤ 2147483647 ∧ -2147483648 ≤ bottom ∧ bottom ≤ 2147483647 →
        exec i s = .next (s.setWk { s.wk with topPoc := top, bottomPoc := bottom, pocMsb := msb, frameNumOffset := fno })) ∧
      (¬ (-2147483648 ≤ top ∧ top ≤ 2147483647 ∧ -2147483648 ≤ bottom ∧ bottom ≤ 2147483647) →
        exec i s = .next ((s.setWk { s.wk with topPoc := top, bottomPoc := bottom, pocMsb := msb, frameNumOffset := fno }).restorePools.raise .invalid))
    (let prevMsb := if idr then 0 else s.au.prevPocMsb
     let prevLsb := if idr then 0 else s.au.prevPocLsb
     let lsb : Int := h.pocLsb
     let maxLsb : Int := h.sps.maxPocLsb
     let msb := if lsb < prevLsb ∧ prevLsb - lsb ≥ maxLsb / 2 then prevMsb + maxLsb
       else if lsb > prevLsb ∧ lsb - prevLsb > maxLsb / 2 then prevMsb - maxLsb else prevMsb
     keeps .pocType0 (msb + lsb) (msb + lsb + h.deltaPocBottom) msb) ∧
    (let n := h.sps.offsetForRefFrame.length
     let abs0 : Int := if n ≠ 0 then fno + h.frameNum else 0
     let abs : Int := if h.nalRefIdc = 0 ∧ abs0 > 0 then abs0 - 1 else abs0
     let sum (k : Nat) : Int := ((List.range k).map fun i => h.sps.offsetForRefFrame.getD i 0).sum
     let e0 : Int := if abs > 0 then (abs - 1) / (n : Int) * sum n + sum (((abs - 1) % (n : Int)).toNat + 1) else 0
     let e : Int := if h.nalRefIdc = 0 then e0 + h.sps.offsetForNonRefPic else e0
     keeps .pocType1 (e + h.deltaPoc0) (e + h.deltaPoc0 + h.sps.offsetForTopToBottom + h.deltaPoc1) 0) ∧
    (let t : Int := if idr then 0 else if h.nalRefIdc = 0 then 2 * (fno + h.frameNum) - 1 else 2 * (fno + h.frameNum)
     keeps .pocType2 t t 0)

/-! ## Syntax elements -/

/-- The fixed-length elements: `u(n)`, `f(n)` and `u(v)` take the next `n` bits, most significant first, and move the cursor; past the end `E_BITS` is raised and the cursor does not move (40_bitreader_nal.md R212, R214). -/
def Obligations.FixedLengthReads : Prop :=
  ∀ (s : State) (n : Nat) (i : Instr), i = .descU n ∨ i = .descF n ∨ i = .descUv n →
    (s.br.cursor + n ≤ 8 * s.br.rbsp.length →
      exec i s = .next ((s.setBr { s.br with cursor := s.br.cursor + n }).setWk { s.wk with
        elem := (((List.range n).map fun j =>
          (s.br.rbsp.getD ((s.br.cursor + j) / 8) 0).toNat / 2 ^ (7 - (s.br.cursor + j) % 8) % 2 * 2 ^ (n - 1 - j)).sum : Nat)
        elem2 := 0 })) ∧
    (s.br.cursor + n > 8 * s.br.rbsp.length → exec i s = .next (s.raise .bits))

/-- The Exp-Golomb elements: `L` zeros, a one and `L` bits of information are the code number `2^L - 1 + info`; `ue`, `se`, `te` and `me` map it; `te` with range maximum 1 is one inverted bit; more than 31 zeros are `E_INVALID`, an end inside the zeros `E_BITS` (30_encoding.md R142-R144, 40_bitreader_nal.md R215-R217, 44_mb_syntax.md R452). -/
def Obligations.ExpGolombReads : Prop :=
  (∀ (s : State) (l : Nat) (info : List Bool), l ≤ 31 → info.length = l →
    s.br.startsWith (List.replicate l false ++ true :: info) →
    let k := 2 ^ l - 1 + bitsToNat info
    let moved := { s.br with cursor := s.br.cursor + (2 * l + 1) }
    let keeps (i : Instr) (x : Int) : Prop := exec i s = .next ((s.setBr moved).setWk { s.wk with elem := x, elem2 := 0 })
    keeps .descUe k ∧
    (k % 2 = 1 → keeps .descSe ((k + 1) / 2 : Nat)) ∧ (k % 2 = 0 → keeps .descSe (-((k / 2 : Nat) : Int))) ∧
    (∀ c, c > 1 → keeps (.descTe c) k) ∧
    (k ≤ 47 → keeps (.descMe true) (meIntra.getD k 0) ∧ keeps (.descMe false) (meInter.getD k 0)) ∧
    (k > 47 → ∀ b, exec (.descMe b) s = .next ((s.setBr moved).raise .invalid))) ∧
  (∀ (s : State) (b : Bool), s.br.startsWith [b] →
    exec (.descTe 1) s = .next ((s.setBr { s.br with cursor := s.br.cursor + 1 }).setWk
      { s.wk with elem := if b then 0 else 1, elem2 := 0 })) ∧
  (∀ s : State, s.br.startsWith (List.replicate 32 false) →
    exec .descUe s = .next ((s.setBr { s.br with cursor := s.br.cursor + 32 }).raise .invalid)) ∧
  (∀ (s : State) (l : Nat), l ≤ 31 → 8 * s.br.rbsp.length = s.br.cursor + l → s.br.startsWith (List.replicate l false) →
    exec .descUe s = .next ((s.setBr { s.br with cursor := s.br.cursor + l }).raise .bits))

/-- The CAVLC codes: whatever a code yields is kept, with nothing but the cursor changed, and a failed code raises its error; `level_prefix` counts zeros up to 31, `level_suffix` is fixed-length, `run_before` follows its table, and the entries of the OPEN tables that the spec lists have the values it gives (44_mb_syntax.md R463-R466). -/
def Obligations.CavlcCodeReads : Prop :=
  ∀ s : State,
    let keeps (e : CeElem) (n : Nat) (v : Int) (v2 : Nat) : Prop :=
      exec (.descCe e) s = .next ((s.setBr { s.br with cursor := s.br.cursor + n }).setWk { s.wk with elem := v, elem2 := v2 })
    (∀ e v p, readCe e s.ps = .ok v p → p = { s.ps with br := { s.br with cursor := p.br.cursor } } ∧
      s.br.cursor ≤ p.br.cursor ∧ keeps e (p.br.cursor - s.br.cursor) v.1 v.2) ∧
    (∀ e x p, readCe e s.ps = .error x p → exec (.descCe e) s = .next ((s.setBr p.br).raise x)) ∧
    (∀ k, k ≤ 31 → s.br.startsWith (List.replicate k false ++ [true]) → keeps .levelPrefix (k + 1) k 0) ∧
    (s.br.startsWith (List.replicate 32 false) →
      exec (.descCe .levelPrefix) s = .next ((s.setBr { s.br with cursor := s.br.cursor + 32 }).raise .invalid)) ∧
    (∀ n bs, s.br.startsWith bs → bs.length = n → keeps (.levelSuffix n) n (bitsToNat bs) 0) ∧
    (∀ z c, 1 ≤ z → c ∈ runBeforeTable z → s.br.startsWith c.1 → keeps (.runBefore z) c.1.length c.2 0) ∧
    (∀ nC, 0 ≤ nC → nC < 2 →
      (s.br.startsWith [true] → keeps (.coeffToken nC) 1 0 0) ∧ (s.br.startsWith [false, true] → keeps (.coeffToken nC) 2 1 1) ∧
      (s.br.startsWith [false, false, true] → keeps (.coeffToken nC) 3 2 2)) ∧
    (s.br.startsWith [false, true] → keeps (.coeffToken (-1)) 2 0 0) ∧ (s.br.startsWith [true] → keeps (.coeffToken (-1)) 1 1 1) ∧
    (s.br.startsWith [true] → keeps (.totalZeros false 1) 1 0 0) ∧
    (s.br.startsWith [false, true, true] → keeps (.totalZeros false 1) 3 1 0) ∧
    (s.br.startsWith [false, true, false] → keeps (.totalZeros false 1) 3 2 0) ∧
    (s.br.startsWith [true, false, true] → keeps (.totalZeros false 2) 3 2 0) ∧
    (s.br.startsWith [true, false, false] → keeps (.totalZeros false 2) 3 3 0) ∧
    (s.br.startsWith [false, true, false, false] → keeps (.totalZeros false 2) 4 6 0) ∧
    (s.br.startsWith [true] → keeps (.totalZeros true 1) 1 0 0) ∧
    (s.br.startsWith [false, true] → keeps (.totalZeros true 1) 2 1 0) ∧
    (s.br.startsWith [false, false, true] → keeps (.totalZeros true 1) 3 2 0) ∧
    (s.br.startsWith [false, false, false] → keeps (.totalZeros true 1) 3 3 0)

/-- The CABAC elements: whatever the engine's bins yield is kept, and only the cursor and the engine change; an error of the engine is raised (45_cabac_syntax.md R500, R507). -/
def Obligations.CabacElementReads : Prop :=
  ∀ (s : State) (e : AeElem),
    (∀ v p, readAe s e s.ps = .ok v p → p.br = { s.br with cursor := p.br.cursor } ∧ s.br.cursor ≤ p.br.cursor ∧
      exec (.descAe e) s = .next (((s.setBr p.br).setCabac p.cabac).setWk { s.wk with elem := v, elem2 := 0 })) ∧
    (∀ x p, readAe s e s.ps = .error x p → p.br = { s.br with cursor := p.br.cursor } ∧ exec (.descAe e) s = .next (((s.setBr p.br).setCabac p.cabac).raise x))

/-- The bins that no context decides, with an engine of R502's procedures: a bypass bin doubles the offset, adds a bit and compares with the range; the terminate bin takes 2 from the range, and returns 1 without renormalisation when the offset reaches it; with a range of 256 or more left it reads no bit. With any other engine, an oracle: its bin is kept, it reads bits, to the end of the codeword of its bins after a terminating bin 1 and never past that end, and past the end of the RBSP `E_BITS` is raised there. What that codeword holds and where it ends is what the procedures hold and read when they give the same bins, so that the cursor after a terminating bin 1 is theirs (45_cabac_syntax.md R500, R502, R504). What a bit stream that is not conforming shifts out of the nine bits of the offset is lost, by the model's choice (log entry 44), and what an oracle may see and do, not reading past the codeword's end among it, is the model's choice too (log entry 45). -/
def Obligations.BypassAndTerminateBins : Prop :=
  (∀ s : State, s.params.cabacEngine = .procedures →
    (∀ b, s.br.startsWith [b] →
      let off : Nat := 2 * s.cabac.offset.toNat + (if b then 1 else 0)
      let moved := s.setBr { s.br with cursor := s.br.cursor + 1 }
      (off ≥ s.cabac.range.toNat → exec (.descAe .coeffSignFlag) s = .next ((moved.setCabac
        { s.cabac with offset := BitVec.ofNat 9 (off - s.cabac.range.toNat) }).setWk { s.wk with elem := 1, elem2 := 0 })) ∧
      (off < s.cabac.range.toNat → exec (.descAe .coeffSignFlag) s = .next ((moved.setCabac
        { s.cabac with offset := BitVec.ofNat 9 off }).setWk { s.wk with elem := 0, elem2 := 0 }))) ∧
    (s.cabac.offset ≥ s.cabac.range - 2 → exec (.descAe .endOfSliceFlag) s = .next ((s.setCabac
      { s.cabac with range := s.cabac.range - 2 }).setWk { s.wk with elem := 1, elem2 := 0 })) ∧
    (s.cabac.offset < s.cabac.range - 2 → s.cabac.range - 2 ≥ 256 → exec (.descAe .endOfSliceFlag) s = .next ((s.setCabac
      { s.cabac with range := s.cabac.range - 2 }).setWk { s.wk with elem := 0, elem2 := 0 })) ∧
    (∀ b, s.cabac.offset < s.cabac.range - 2 → s.cabac.range = 256 ∨ s.cabac.range = 257 → s.br.startsWith [b] →
      exec (.descAe .endOfSliceFlag) s = .next (((s.setBr { s.br with cursor := s.br.cursor + 1 }).setCabac
        { s.cabac with range := 2 * (s.cabac.range - 2), offset := 2 * s.cabac.offset + (if b then 1 else 0) }).setWk
          { s.wk with elem := 0, elem2 := 0 }))) ∧
  (∀ (s : State) (e : AeElem) (op : EngineOp), s.params.cabacEngine = .oracle →
    (e = .coeffSignFlag ∧ op = .bypass) ∨ (e = .endOfSliceFlag ∧ op = .terminate) ∨ (e = .prevIntraPredModeFlag ∧ op = .decision 68) →
    s.br.cursor ≤ 8 * s.br.rbsp.length →
    let turn := Config.cabacOracle op s.cabac (s.br.window (8 * s.br.rbsp.length))
    let word := s.cabac.codeword.next op turn.bin
    let left := word.stop - s.br.cursor
    let n := if op = .terminate ∧ turn.bin = true then left else min turn.reads left
    exec (.descAe e) s =
      if s.br.cursor + n ≤ 8 * s.br.rbsp.length then
        .next (((s.setBr { s.br with cursor := s.br.cursor + n }).setCabac { turn.after with codeword := word }).setWk
          { s.wk with elem := if turn.bin then 1 else 0, elem2 := 0 })
      else .next ((s.setBr { s.br with cursor := 8 * s.br.rbsp.length }).raise .bits)) ∧
  (∀ (s : State) (e : AeElem) (op : EngineOp) (v : Int) (p : Ps), s.params.cabacEngine = .procedures →
    (e = .coeffSignFlag ∧ op = .bypass) ∨ (e = .endOfSliceFlag ∧ op = .terminate) ∨ (e = .prevIntraPredModeFlag ∧ op = .decision 68) →
    (∀ x ∈ s.cabac.ctx, x.valMps ≤ 1) → readAe s e s.ps = .ok v p →
    Codeword.next ⟨s.cabac.ctx, s.cabac.range, s.br.cursor⟩ op (decide (v = 1)) = ⟨p.cabac.ctx, p.cabac.range, p.br.cursor⟩)

/-! ## Macroblock types -/

/-- The coded macroblock types but I_PCM, in I, P and B slices: the type is kept with the facts it gives, and the rest of the macroblock layer is queued, after four sub-macroblock types for a type of four partitions; nothing else changes (44_mb_syntax.md R430, R432, R440-R443; 43_slice_fsm.md R384). -/
def Obligations.CodedMacroblockTypes : Prop :=
  (∀ p ∈ codedIntraOps, ∀ s : State, ∃ t, exec p.1 s = .next t ∧
    t = ((s.setMb { s.mb with mbType := p.2 }).setWk { s.wk with cur := t.wk.cur, subIdx := 0 }).setTasks (.mbRest :: s.tasks) ∧
    t.wk.cur.mbType = p.2 ∧ t.wk.cur.isIntra = true ∧ t.wk.cur.isPcm = false ∧ t.wk.cur.isSkip = false ∧
    t.wk.cur.skipFlag = false ∧
    (∀ n, p.2 = .i16x16 n → t.wk.cur.cbpLuma = (if n ≥ 12 then 15 else 0) ∧ t.wk.cur.cbpChroma = n / 4 % 3) ∧
    t.wk.cur.intra4x4Mode = List.replicate 16 2 ∧ t.wk.cur.intra8x8Mode = List.replicate 4 2 ∧
    (∀ x k, (t.wk.cur.motion x k).refIdx = -1 ∧ (t.wk.cur.motion x k).mv = ⟨0, 0⟩)) ∧
  (∀ p ∈ codedInterOps, ∀ s : State, ∃ t, exec p.1 s = .next t ∧
    t = ((s.setMb { s.mb with mbType := p.2 }).setWk { s.wk with cur := t.wk.cur, subIdx := 0 }).setTasks
      ((if p.2 = .p 3 ∨ p.2 = .p 4 then List.replicate 4 (.fetch .subP)
        else if p.2 = .b 22 then List.replicate 4 (.fetch .subB) else []) ++ .mbRest :: s.tasks) ∧
    t.wk.cur.mbType = p.2 ∧ t.wk.cur.isIntra = false ∧ t.wk.cur.isPcm = false ∧ t.wk.cur.isSkip = false ∧
    t.wk.cur.skipFlag = false ∧ t.wk.cur.isDirect16x16 = decide (p.2 = .b 0) ∧
    t.wk.cur.direct8x8 = List.replicate 4 (decide (p.2 = .b 0)) ∧
    t.wk.cur.cbpLuma = 0 ∧ t.wk.cur.cbpChroma = 0)

/-- The skipped macroblocks: no coefficient, no coded block pattern, the QP as it was, P_Skip one partition and B_Skip sixteen direct blocks, then the residual of zeros and the write-back (43_slice_fsm.md R372, R378, R379; 46_mb_decoders.md R575, R585). -/
def Obligations.SkippedMacroblocks : Prop :=
  ∀ (i : Instr) (ty : MbType) (n : Nat) (s : State), (i = .pSkip ∧ ty = .pSkip ∧ n = 1) ∨ (i = .bSkip ∧ ty = .bSkip ∧ n = 16) →
    ∃ t, exec i s = .next t ∧
      t = (((s.setMb { s.mb with mbType := ty }).setWk { s.wk with cur := t.wk.cur, subIdx := 0 }).setDs
        { s.ds with qpY := s.ds.qpY % 52, qpYPrev := s.ds.qpY, prevMbQpDeltaNonZero := false }).setTasks t.tasks ∧
      t.wk.cur.mbType = ty ∧ t.wk.cur.isSkip = true ∧ t.wk.cur.skipFlag = true ∧ t.wk.cur.isIntra = false ∧
      t.wk.cur.cbpLuma = 0 ∧ t.wk.cur.cbpChroma = 0 ∧ t.wk.cur.coeffLuma = List.replicate 16 0 ∧
      t.wk.cur.coeffCb = List.replicate 4 0 ∧ t.wk.cur.coeffCr = List.replicate 4 0 ∧
      t.wk.cur.transform8x8 = false ∧ t.wk.cur.direct8x8 = List.replicate 4 (decide (ty = .bSkip)) ∧
      (0 ≤ s.ds.qpY → s.ds.qpY ≤ 51 → t.ds.qpY = s.ds.qpY) ∧
      (s.mb.transform8x8 = false → t.tasks = (List.range n).map .part ++ (List.range 16).map .luma4x4 ++
        [.chromaDc 1, .chromaAc 1 0, .chromaAc 1 1, .chromaAc 1 2, .chromaAc 1 3,
         .chromaDc 2, .chromaAc 2 0, .chromaAc 2 1, .chromaAc 2 2, .chromaAc 2 3, .writeBack] ++ s.tasks)

/-- I_PCM in I, P and B slices: after alignment, 384 bytes are the reconstruction; the warning is raised, the QP stays, and only the write-back is left; in CABAC the engine starts again with range 510 and the nine bits after the samples as its offset, its contexts as they were; too few bits raise `E_BITS` (46_mb_decoders.md R551, 60_exceptions.md R814, 44_mb_syntax.md R430, 45_cabac_syntax.md R500, R503). That the codeword kept for an engine that is an oracle starts again there is the model's choice (log entry 45). -/
def Obligations.PcmMacroblocks : Prop :=
  ∀ (i : Instr) (s : State), i = .iPcm ∨ i = .pIPcm ∨ i = .bIPcm →
    let start := s.br.cursor + (8 - s.br.cursor % 8) % 8
    let stop := start + 3072 + (if s.hdr.pps.cabac then 9 else 0)
    let byte (j : Nat) : Int := (s.br.rbsp.getD (start / 8 + j) 0).toNat
    (stop ≤ 8 * s.br.rbsp.length → ∃ t, exec i s = .next t ∧
      t.mb.reconY = (List.range 256).map byte ∧ t.mb.reconCb = (List.range 64).map (fun j => byte (256 + j)) ∧
      t.mb.reconCr = (List.range 64).map (fun j => byte (320 + j)) ∧
      t.csr = { s.csr with warnIpcm := true } ∧ t.tasks = .writeBack :: s.tasks ∧
      t.br = { s.br with cursor := stop } ∧
      (s.hdr.pps.cabac = false → t.cabac = s.cabac) ∧
      (s.hdr.pps.cabac = true → t.cabac.range = 510 ∧ t.cabac.ctx = s.cabac.ctx ∧
        t.cabac.codeword = { s.cabac.codeword with range := 510, stop := stop } ∧
        (t.cabac.offset.toNat : Int) = 2 * byte 384 + byte 385 / 128) ∧
      (0 ≤ s.ds.qpY → s.ds.qpY ≤ 51 → t.ds = { s.ds with qpYPrev := s.ds.qpY, prevMbQpDeltaNonZero := false }) ∧
      t.wk.cur.mbType = .iPcm ∧ t.wk.cur.isPcm = true ∧ t.wk.cur.isIntra = true ∧ t.wk.cur.cbpLuma = 15 ∧
      t.wk.cur.cbpChroma = 2 ∧ t.wk.cur.coeffLuma = List.replicate 16 16 ∧ t.wk.cur.coeffCb = List.replicate 4 16 ∧
      t.wk.cur.coeffCr = List.replicate 4 16 ∧
      t.mem = s.mem ∧ t.fs = s.fs ∧ t.au = s.au ∧ t.sl = s.sl) ∧
    (stop > 8 * s.br.rbsp.length → s.csr.fsm = .decoding → ∃ t, exec i s = .next t ∧
      t.csr.sliceErr = true ∧ t.csr.warnIpcm = s.csr.warnIpcm ∧ (s.csr.errCode = 0 → t.csr.errCode = 1) ∧ t.mem = s.mem ∧
      t.au = s.au)

/-- The sub-macroblock types: each is kept at the next of the four places, with whether it is direct; nothing else changes (44_mb_syntax.md R432, R444). -/
def Obligations.SubMacroblockTypes : Prop :=
  ∀ p ∈ subTypeOps, ∀ s : State,
    exec p.1 s = .next ((s.setMb { s.mb with subTypes := s.mb.subTypes.set s.wk.subIdx p.2 }).setWk
      { s.wk with subIdx := s.wk.subIdx + 1
                  cur := { s.wk.cur with direct8x8 := s.wk.cur.direct8x8.set s.wk.subIdx (decide (p.2 = .b 0)) } })

/-- The QP update: the macroblock's QP is the predicted one plus `mb_qp_delta` modulo 52, so always 0..51, before the macroblock's work begins (43_slice_fsm.md R378, R379). -/
def Obligations.QpUpdate : Prop :=
  ∀ (s : State) (ts : List Task) (p : Ps), s.due .mbRest ts → readMbLayer (s.taken ts) s.ps = .ok () p →
    ∃ t, step s = .next t ∧
      t.ds = { s.ds with qpY := (s.ds.qpY + p.mb.mbQpDelta) % 52, qpYPrev := s.ds.qpY, prevMbQpDeltaNonZero := decide (p.mb.mbQpDelta ≠ 0) } ∧
      0 ≤ t.ds.qpY ∧ t.ds.qpY ≤ 51 ∧ t.mb = p.mb ∧ t.br = p.br ∧ t.csr = s.csr ∧ t.au = s.au ∧ t.fs = s.fs ∧ t.mem = s.mem ∧
      ∃ ks, t.tasks = ks ++ [.writeBack] ++ ts

/-- The write-back of a macroblock: its 384 samples at its position in the current frame and no other byte of memory; its information, motion and deblocker entry written, `MB` cleared, the count one more (20_memory.md R102, R103; 43_slice_fsm.md R371 steps 4-6, R384-R386). The deblocker's count of a block under an 8x8 transform is the whole 8x8 block's, in CAVLC the sum of its four counts (log entry 26). -/
def Obligations.WriteBackWritesOneMacroblock : Prop :=
  ∀ (s : State) (ts : List Task), s.due .writeBack ts →
    ∃ t, step s = .next t ∧
      (∀ a, (∀ x y, x < 16 → y < 16 → a ≠ s.sampleAddr s.cur 0 (16 * s.mbX + x) (16 * s.mbY + y)) →
        (∀ c x y, c = 1 ∨ c = 2 → x < 8 → y < 8 → a ≠ s.sampleAddr s.cur c (8 * s.mbX + x) (8 * s.mbY + y)) →
        t.byteAt a = s.byteAt a) ∧
      ((s.frame s.cur).w = 16 * s.picWidth → 16 * (s.mbY + 1) ≤ (s.frame s.cur).h → (s.frame s.cur).h % 2 = 0 →
        (∀ x y, x < 16 → y < 16 → t.byteAt (s.sampleAddr s.cur 0 (16 * s.mbX + x) (16 * s.mbY + y)) =
          BitVec.ofInt 8 (at0 s.mb.reconY (16 * y + x))) ∧
        (∀ x y, x < 8 → y < 8 → t.byteAt (s.sampleAddr s.cur 1 (8 * s.mbX + x) (8 * s.mbY + y)) =
          BitVec.ofInt 8 (at0 s.mb.reconCb (8 * y + x))) ∧
        (∀ x y, x < 8 → y < 8 → t.byteAt (s.sampleAddr s.cur 2 (8 * s.mbX + x) (8 * s.mbY + y)) =
          BitVec.ofInt 8 (at0 s.mb.reconCr (8 * y + x)))) ∧
      (s.ds.currMbAddr < s.au.mbInfo.length → t.mbInfoAt s.ds.currMbAddr =
        { s.wk.cur with decoded := true, sliceNum := s.ds.sliceNum, qpY := s.ds.qpY }) ∧
      (∀ a, a ≠ s.ds.currMbAddr → t.mbInfoAt a = s.mbInfoAt a) ∧
      (∀ g, t.frame g = if g = s.cur ∧ g < s.fs.length then { s.frame g with
          motion := (s.frame g).motion.set s.ds.currMbAddr ⟨s.wk.cur.isIntra, s.wk.cur.motion0, s.wk.cur.motion1⟩ }
        else s.frame g) ∧
      (∀ d, s.cur < s.dbk.length → s.dbk[s.cur]? = some d → ∃ e : DbkMb, t.dbk = s.dbk.set s.cur { d with mbs := d.mbs.set s.ds.currMbAddr e } ∧
        e.decoded = true ∧ e.sliceNum = s.ds.sliceNum ∧ e.mbType = s.wk.cur.mbType ∧ e.isIntra = s.wk.cur.isIntra ∧
        e.isPcm = s.wk.cur.isPcm ∧ e.qpY = s.ds.qpY ∧ e.transform8x8 = s.wk.cur.transform8x8 ∧
        e.motion0 = s.wk.cur.motion0 ∧ e.motion1 = s.wk.cur.motion1 ∧
        e.nonZeroCb = s.wk.cur.coeffCb ∧ e.nonZeroCr = s.wk.cur.coeffCr ∧
        (s.wk.cur.transform8x8 = false ∨ s.hdr.pps.cabac = true → e.nonZero = s.wk.cur.coeffLuma) ∧
        (s.wk.cur.transform8x8 = true → s.hdr.pps.cabac = false → e.nonZero.length = 16 ∧
          ∀ k, k < 16 → e.nonZero[k]? = some (((List.range 4).map fun j => s.wk.cur.coeffLuma.getD (4 * (k / 4) + j) 0).sum)) ∧
        (e.used0 = true ↔ ∃ b ∈ s.wk.cur.motion0, b.refIdx ≥ 0) ∧ (e.used1 = true ↔ ∃ b ∈ s.wk.cur.motion1, b.refIdx ≥ 0)) ∧
      t.mb = MbRec.cleared ∧ t.ds = { s.ds with mbCount := s.ds.mbCount + 1 } ∧ t.csr = s.csr ∧ t.tasks = ts ∧ t.sl = s.sl

/-! ## Intra prediction -/

/-- The nine Intra_4x4 modes, for the 4x4 block in progress at `(blkX, blkY)`: where the samples a mode needs are available, the block of the luma prediction is the mode's and nothing else changes; `p.t x` is `p[x, -1]`, `p.l y` is `p[-1, y]`, index -1 the corner (47_intra_pred.md R626-R634). -/
def Obligations.Intra4x4Modes : Prop :=
  ∀ s : State,
    let p := s.nb4x4 s.wk.blk
    let predicts (i : Instr) (f : Int → Int → Int) : Prop :=
      exec i s = .next (s.setWk { s.wk with
        predY := setBlock s.wk.predY 16 (blkX s.wk.blk) (blkY s.wk.blk) 4 4 (block 4 4 fun x y => f x y) })
    (p.hasTop = true → predicts .intra4x4Vertical fun x _ => p.t x) ∧
    (p.hasLeft = true → predicts .intra4x4Horizontal fun _ y => p.l y) ∧
    (predicts .intra4x4Dc fun _ _ =>
      if p.hasTop ∧ p.hasLeft then (p.t 0 + p.t 1 + p.t 2 + p.t 3 + (p.l 0 + p.l 1 + p.l 2 + p.l 3) + 4) / 8
      else if p.hasTop then (p.t 0 + p.t 1 + p.t 2 + p.t 3 + 2) / 4
      else if p.hasLeft then (p.l 0 + p.l 1 + p.l 2 + p.l 3 + 2) / 4 else 128) ∧
    (p.hasTop = true → predicts .intra4x4DiagDownLeft fun x y =>
      if x = 3 ∧ y = 3 then (p.t 6 + 3 * p.t 7 + 2) / 4 else (p.t (x + y) + 2 * p.t (x + y + 1) + p.t (x + y + 2) + 2) / 4) ∧
    (p.hasTop = true → p.hasLeft = true → p.hasCorner = true → predicts .intra4x4DiagDownRight fun x y =>
      if x > y then (p.t (x - y - 2) + 2 * p.t (x - y - 1) + p.t (x - y) + 2) / 4
      else if x < y then (p.l (y - x - 2) + 2 * p.l (y - x - 1) + p.l (y - x) + 2) / 4
      else (p.t 0 + 2 * p.corner + p.l 0 + 2) / 4) ∧
    (p.hasTop = true → p.hasLeft = true → p.hasCorner = true → predicts .intra4x4VerticalRight fun x y =>
      let z := 2 * x - y
      if z = 0 ∨ z = 2 ∨ z = 4 ∨ z = 6 then (p.t (x - y / 2 - 1) + p.t (x - y / 2) + 1) / 2
      else if z = 1 ∨ z = 3 ∨ z = 5 then (p.t (x - y / 2 - 2) + 2 * p.t (x - y / 2 - 1) + p.t (x - y / 2) + 2) / 4
      else if z = -1 then (p.l 0 + 2 * p.corner + p.t 0 + 2) / 4
      else (p.l (y - 2 * x - 1) + 2 * p.l (y - 2 * x - 2) + p.l (y - 2 * x - 3) + 2) / 4) ∧
    (p.hasTop = true → p.hasLeft = true → p.hasCorner = true → predicts .intra4x4HorizontalDown fun x y =>
      let z := 2 * y - x
      if z = 0 ∨ z = 2 ∨ z = 4 ∨ z = 6 then (p.l (y - x / 2 - 1) + p.l (y - x / 2) + 1) / 2
      else if z = 1 ∨ z = 3 ∨ z = 5 then (p.l (y - x / 2 - 2) + 2 * p.l (y - x / 2 - 1) + p.l (y - x / 2) + 2) / 4
      else if z = -1 then (p.l 0 + 2 * p.corner + p.t 0 + 2) / 4
      else (p.t (x - 2 * y - 1) + 2 * p.t (x - 2 * y - 2) + p.t (x - 2 * y - 3) + 2) / 4) ∧
    (p.hasTop = true → predicts .intra4x4VerticalLeft fun x y =>
      if y = 0 ∨ y = 2 then (p.t (x + y / 2) + p.t (x + y / 2 + 1) + 1) / 2
      else (p.t (x + y / 2) + 2 * p.t (x + y / 2 + 1) + p.t (x + y / 2 + 2) + 2) / 4) ∧
    (p.hasLeft = true → predicts .intra4x4HorizontalUp fun x y =>
      let z := x + 2 * y
      if z = 0 ∨ z = 2 ∨ z = 4 then (p.l (y + x / 2) + p.l (y + x / 2 + 1) + 1) / 2
      else if z = 1 ∨ z = 3 then (p.l (y + x / 2) + 2 * p.l (y + x / 2 + 1) + p.l (y + x / 2 + 2) + 2) / 4
      else if z = 5 then (p.l 2 + 3 * p.l 3 + 2) / 4 else p.l 3)

/-- The nine Intra_8x8 modes, for the 8x8 block in progress and its filtered reference samples, and the filter that makes those of the unfiltered ones (47_intra_pred.md R640-R649). -/
def Obligations.Intra8x8Modes : Prop :=
  (∀ s : State,
     let p := s.nb8x8 s.wk.blk
     let predicts (i : Instr) (f : Int → Int → Int) : Prop :=
       exec i s = .next (s.setWk { s.wk with
         predY := setBlock s.wk.predY 16 (8 * (s.wk.blk % 2)) (8 * (s.wk.blk / 2)) 8 8 (block 8 8 fun x y => f x y) })
     let sumT := p.t 0 + p.t 1 + p.t 2 + p.t 3 + p.t 4 + p.t 5 + p.t 6 + p.t 7
     let sumL := p.l 0 + p.l 1 + p.l 2 + p.l 3 + p.l 4 + p.l 5 + p.l 6 + p.l 7
     (p.hasTop = true → predicts .intra8x8Vertical fun x _ => p.t x) ∧
     (p.hasLeft = true → predicts .intra8x8Horizontal fun _ y => p.l y) ∧
     (predicts .intra8x8Dc fun _ _ =>
       if p.hasTop ∧ p.hasLeft then (sumT + sumL + 8) / 16 else if p.hasTop then (sumT + 4) / 8
       else if p.hasLeft then (sumL + 4) / 8 else 128) ∧
     (p.hasTop = true → predicts .intra8x8DiagDownLeft fun x y =>
       if x = 7 ∧ y = 7 then (p.t 14 + 3 * p.t 15 + 2) / 4 else (p.t (x + y) + 2 * p.t (x + y + 1) + p.t (x + y + 2) + 2) / 4) ∧
     (p.hasTop = true → p.hasLeft = true → p.hasCorner = true → predicts .intra8x8DiagDownRight fun x y =>
       if x > y then (p.t (x - y - 2) + 2 * p.t (x - y - 1) + p.t (x - y) + 2) / 4
       else if x < y then (p.l (y - x - 2) + 2 * p.l (y - x - 1) + p.l (y - x) + 2) / 4
       else (p.t 0 + 2 * p.corner + p.l 0 + 2) / 4) ∧
     (p.hasTop = true → p.hasLeft = true → p.hasCorner = true → predicts .intra8x8VerticalRight fun x y =>
       let z := 2 * x - y
       if z ≥ 0 ∧ z % 2 = 0 then (p.t (x - y / 2 - 1) + p.t (x - y / 2) + 1) / 2
       else if z > 0 then (p.t (x - y / 2 - 2) + 2 * p.t (x - y / 2 - 1) + p.t (x - y / 2) + 2) / 4
       else if z = -1 then (p.l 0 + 2 * p.corner + p.t 0 + 2) / 4
       else (p.l (y - 2 * x - 1) + 2 * p.l (y - 2 * x - 2) + p.l (y - 2 * x - 3) + 2) / 4) ∧
     (p.hasTop = true → p.hasLeft = true → p.hasCorner = true → predicts .intra8x8HorizontalDown fun x y =>
       let z := 2 * y - x
       if z ≥ 0 ∧ z % 2 = 0 then (p.l (y - x / 2 - 1) + p.l (y - x / 2) + 1) / 2
       else if z > 0 then (p.l (y - x / 2 - 2) + 2 * p.l (y - x / 2 - 1) + p.l (y - x / 2) + 2) / 4
       else if z = -1 then (p.l 0 + 2 * p.corner + p.t 0 + 2) / 4
       else (p.t (x - 2 * y - 1) + 2 * p.t (x - 2 * y - 2) + p.t (x - 2 * y - 3) + 2) / 4) ∧
     (p.hasTop = true → predicts .intra8x8VerticalLeft fun x y =>
       if y % 2 = 0 then (p.t (x + y / 2) + p.t (x + y / 2 + 1) + 1) / 2
       else (p.t (x + y / 2) + 2 * p.t (x + y / 2 + 1) + p.t (x + y / 2 + 2) + 2) / 4) ∧
     (p.hasLeft = true → predicts .intra8x8HorizontalUp fun x y =>
       let z := x + 2 * y
       if z < 13 ∧ z % 2 = 0 then (p.l (y + x / 2) + p.l (y + x / 2 + 1) + 1) / 2
       else if z < 13 then (p.l (y + x / 2) + 2 * p.l (y + x / 2 + 1) + p.l (y + x / 2 + 2) + 2) / 4
       else if z = 13 then (p.l 6 + 3 * p.l 7 + 2) / 4 else p.l 7)) ∧
  (∀ p : IntraNb,
     p.filter8.hasTop = p.hasTop ∧ p.filter8.hasLeft = p.hasLeft ∧ p.filter8.hasCorner = p.hasCorner ∧
     p.filter8.t 0 = (if p.hasCorner then (p.corner + 2 * p.t 0 + p.t 1 + 2) / 4 else (3 * p.t 0 + p.t 1 + 2) / 4) ∧
     (∀ x : Int, 1 ≤ x → x ≤ 14 → p.filter8.t x = (p.t (x - 1) + 2 * p.t x + p.t (x + 1) + 2) / 4) ∧
     p.filter8.t 15 = (p.t 14 + 3 * p.t 15 + 2) / 4 ∧
     p.filter8.corner = (if p.hasTop ∧ p.hasLeft then (p.t 0 + 2 * p.corner + p.l 0 + 2) / 4
       else if p.hasTop then (3 * p.corner + p.t 0 + 2) / 4 else if p.hasLeft then (3 * p.corner + p.l 0 + 2) / 4 else p.corner) ∧
     p.filter8.l 0 = (if p.hasCorner then (p.corner + 2 * p.l 0 + p.l 1 + 2) / 4 else (3 * p.l 0 + p.l 1 + 2) / 4) ∧
     (∀ y : Int, 1 ≤ y → y ≤ 6 → p.filter8.l y = (p.l (y - 1) + 2 * p.l y + p.l (y + 1) + 2) / 4) ∧
     p.filter8.l 7 = (p.l 6 + 3 * p.l 7 + 2) / 4) ∧
  ∀ (s : State) (k : Nat), s.nb8x8 k = (s.intraNb 0 16 8 (8 * (k % 2)) (8 * (k / 2)) true
    fun x y => decide (x / 8 + 2 * (y / 8) < k)).filter8

/-- The four Intra_16x16 modes (47_intra_pred.md R651-R654). -/
def Obligations.Intra16x16Modes : Prop :=
  ∀ s : State,
    let p := s.nb16x16
    let predicts (i : Instr) (f : Int → Int → Int) : Prop :=
      exec i s = .next (s.setWk { s.wk with predY := setBlock s.wk.predY 16 0 0 16 16 (block 16 16 fun x y => f x y) })
    let sumT := ((List.range 16).map fun (i : Nat) => p.t i).sum
    let sumL := ((List.range 16).map fun (i : Nat) => p.l i).sum
    (p.hasTop = true → predicts .intra16x16Vertical fun x _ => p.t x) ∧
    (p.hasLeft = true → predicts .intra16x16Horizontal fun _ y => p.l y) ∧
    (predicts .intra16x16Dc fun _ _ =>
      if p.hasTop ∧ p.hasLeft then (sumT + sumL + 16) / 32 else if p.hasLeft then (sumL + 8) / 16
      else if p.hasTop then (sumT + 8) / 16 else 128) ∧
    (p.hasTop = true → p.hasLeft = true → p.hasCorner = true → predicts .intra16x16Plane fun x y =>
      let h := ((List.range 8).map fun (i : Nat) => ((i : Int) + 1) * (p.t (8 + i) - p.t (6 - i))).sum
      let v := ((List.range 8).map fun (i : Nat) => ((i : Int) + 1) * (p.l (8 + i) - p.l (6 - i))).sum
      let a := 16 * (p.l 15 + p.t 15)
      let b := (5 * h + 32) / 64
      let c := (5 * v + 32) / 64
      max 0 (min 255 ((a + b * (x - 7) + c * (y - 7) + 16) / 32)))

/-- The four chroma modes, for the component in progress (1 Cb, 2 Cr), which changes alone (47_intra_pred.md R661-R664). -/
def Obligations.ChromaModes : Prop :=
  ∀ s : State, s.wk.plane = 1 ∨ s.wk.plane = 2 →
    let p := s.nbChroma s.wk.plane
    let predicts (i : Instr) (f : Int → Int → Int) : Prop :=
      (s.wk.plane = 1 → exec i s = .next (s.setWk { s.wk with predCb := setBlock s.wk.predCb 8 0 0 8 8 (block 8 8 fun x y => f x y) })) ∧
      (s.wk.plane = 2 → exec i s = .next (s.setWk { s.wk with predCr := setBlock s.wk.predCr 8 0 0 8 8 (block 8 8 fun x y => f x y) }))
    (predicts .chromaDc fun x y =>
      let xo := if x < 4 then 0 else 4
      let yo := if y < 4 then 0 else 4
      let st := p.t xo + p.t (xo + 1) + p.t (xo + 2) + p.t (xo + 3)
      let sl := p.l yo + p.l (yo + 1) + p.l (yo + 2) + p.l (yo + 3)
      if xo = yo then
        if p.hasTop ∧ p.hasLeft then (st + sl + 4) / 8 else if p.hasLeft then (sl + 2) / 4
        else if p.hasTop then (st + 2) / 4 else 128
      else if xo = 4 then
        if p.hasTop then (st + 2) / 4 else if p.hasLeft then (sl + 2) / 4 else 128
      else if p.hasLeft then (sl + 2) / 4 else if p.hasTop then (st + 2) / 4 else 128) ∧
    (p.hasLeft = true → predicts .chromaHorizontal fun _ y => p.l y) ∧
    (p.hasTop = true → predicts .chromaVertical fun x _ => p.t x) ∧
    (p.hasTop = true → p.hasLeft = true → p.hasCorner = true → predicts .chromaPlane fun x y =>
      let h := ((List.range 4).map fun (i : Nat) => ((i : Int) + 1) * (p.t (4 + i) - p.t (2 - i))).sum
      let v := ((List.range 4).map fun (i : Nat) => ((i : Int) + 1) * (p.l (4 + i) - p.l (2 - i))).sum
      let a := 16 * (p.l 7 + p.t 7)
      let b := (34 * h + 32) / 64
      let c := (34 * v + 32) / 64
      max 0 (min 255 ((a + b * (x - 3) + c * (y - 3) + 16) / 32)))

/-- A mode whose samples are not all available raises `E_INVALID`: top, left, or top, left and corner as the table says; the DC modes are never illegal (47_intra_pred.md R621). -/
def Obligations.IllegalIntraModes : Prop :=
  ∀ s : State,
    (∀ i, (i = .intra4x4Vertical ∨ i = .intra4x4DiagDownLeft ∨ i = .intra4x4VerticalLeft) → (s.nb4x4 s.wk.blk).hasTop = false →
      exec i s = .next (s.raise .invalid)) ∧
    (∀ i, (i = .intra4x4Horizontal ∨ i = .intra4x4HorizontalUp) → (s.nb4x4 s.wk.blk).hasLeft = false →
      exec i s = .next (s.raise .invalid)) ∧
    (∀ i, (i = .intra4x4DiagDownRight ∨ i = .intra4x4VerticalRight ∨ i = .intra4x4HorizontalDown) →
      (s.nb4x4 s.wk.blk).hasTop = false ∨ (s.nb4x4 s.wk.blk).hasLeft = false ∨ (s.nb4x4 s.wk.blk).hasCorner = false →
      exec i s = .next (s.raise .invalid)) ∧
    (∀ i, (i = .intra8x8Vertical ∨ i = .intra8x8DiagDownLeft ∨ i = .intra8x8VerticalLeft) → (s.nb8x8 s.wk.blk).hasTop = false →
      exec i s = .next (s.raise .invalid)) ∧
    (∀ i, (i = .intra8x8Horizontal ∨ i = .intra8x8HorizontalUp) → (s.nb8x8 s.wk.blk).hasLeft = false →
      exec i s = .next (s.raise .invalid)) ∧
    (∀ i, (i = .intra8x8DiagDownRight ∨ i = .intra8x8VerticalRight ∨ i = .intra8x8HorizontalDown) →
      (s.nb8x8 s.wk.blk).hasTop = false ∨ (s.nb8x8 s.wk.blk).hasLeft = false ∨ (s.nb8x8 s.wk.blk).hasCorner = false →
      exec i s = .next (s.raise .invalid)) ∧
    (s.nb16x16.hasTop = false → exec .intra16x16Vertical s = .next (s.raise .invalid)) ∧
    (s.nb16x16.hasLeft = false → exec .intra16x16Horizontal s = .next (s.raise .invalid)) ∧
    (s.nb16x16.hasTop = false ∨ s.nb16x16.hasLeft = false ∨ s.nb16x16.hasCorner = false →
      exec .intra16x16Plane s = .next (s.raise .invalid)) ∧
    ((s.nbChroma s.wk.plane).hasTop = false → exec .chromaVertical s = .next (s.raise .invalid)) ∧
    ((s.nbChroma s.wk.plane).hasLeft = false → exec .chromaHorizontal s = .next (s.raise .invalid)) ∧
    ((s.nbChroma s.wk.plane).hasTop = false ∨ (s.nbChroma s.wk.plane).hasLeft = false ∨
      (s.nbChroma s.wk.plane).hasCorner = false → exec .chromaPlane s = .next (s.raise .invalid)) ∧
    (∀ i ∈ [Instr.intra4x4Dc, .intra8x8Dc, .intra16x16Dc, .chromaDc], ∃ t, exec i s = .next t ∧ t = s.setWk t.wk)

/-- From 8-bit neighbours every mode predicts 8-bit samples (47_intra_pred.md R665). -/
def Obligations.IntraPredictionStaysInRange : Prop :=
  ∀ (p : IntraNb) (x y : Nat), p.samples →
    ∀ v ∈ [predVertical p x y, predHorizontal p x y, predDc 2 p x y, predDc 3 p x y, predDc 4 p x y, predDiagDownLeft 4 p x y,
        predDiagDownLeft 8 p x y, predDiagDownRight p x y, predVerticalRight p x y, predHorizontalDown p x y,
        predVerticalLeft p x y, predHorizontalUp 4 p x y, predHorizontalUp 8 p x y, predPlane 8 5 p x y, predPlane 4 34 p x y,
        predChromaDc p x y], 0 ≤ v ∧ v ≤ 255

/-! ## Interpolation -/

/-- The sixteen luma phases for the partition and list in progress: half samples from the six-tap filter, quarter samples as rounded averages, all clipped to 8 bits; only that list's luma prediction changes (48_interp_transform.md R681-R683). -/
def Obligations.LumaPhases : Prop :=
  ∀ s : State,
    let f := s.partMotion.refPic.getD 0
    let r (x y : Int) : Int := s.refSample f 0 x y
    let clip (v : Int) : Int := max 0 (min 255 v)
    let b1 (x y : Int) : Int := r (x - 2) y - 5 * r (x - 1) y + 20 * r x y + 20 * r (x + 1) y - 5 * r (x + 2) y + r (x + 3) y
    let h1 (x y : Int) : Int := r x (y - 2) - 5 * r x (y - 1) + 20 * r x y + 20 * r x (y + 1) - 5 * r x (y + 2) + r x (y + 3)
    let j1 (x y : Int) : Int := b1 x (y - 2) - 5 * b1 x (y - 1) + 20 * b1 x y + 20 * b1 x (y + 1) - 5 * b1 x (y + 2) + b1 x (y + 3)
    let b (x y : Int) : Int := clip ((b1 x y + 16) / 32)
    let h (x y : Int) : Int := clip ((h1 x y + 16) / 32)
    let j (x y : Int) : Int := clip ((j1 x y + 512) / 1024)
    let q := s.wk.part
    let x0 : Int := (16 * s.mbX + q.x : Nat) + s.partMotion.mv.x / 4
    let y0 : Int := (16 * s.mbY + q.y : Nat) + s.partMotion.mv.y / 4
    let predicts (i : Instr) (g : Int → Int → Int) : Prop :=
      exec i s = .next (s.setWk (s.wk.setPartPred 0 (block q.w q.h fun x y => g (x0 + x) (y0 + y))))
    predicts .qpel00G (fun x y => r x y) ∧
    predicts .qpel01d (fun x y => (r x y + h x y + 1) / 2) ∧
    predicts .qpel02h (fun x y => h x y) ∧
    predicts .qpel03n (fun x y => (r x (y + 1) + h x y + 1) / 2) ∧
    predicts .qpel10a (fun x y => (r x y + b x y + 1) / 2) ∧
    predicts .qpel11e (fun x y => (b x y + h x y + 1) / 2) ∧
    predicts .qpel12i (fun x y => (h x y + j x y + 1) / 2) ∧
    predicts .qpel13p (fun x y => (h x y + b x (y + 1) + 1) / 2) ∧
    predicts .qpel20b (fun x y => b x y) ∧
    predicts .qpel21f (fun x y => (b x y + j x y + 1) / 2) ∧
    predicts .qpel22j (fun x y => j x y) ∧
    predicts .qpel23q (fun x y => (j x y + b x (y + 1) + 1) / 2) ∧
    predicts .qpel30c (fun x y => (r (x + 1) y + b x y + 1) / 2) ∧
    predicts .qpel31g (fun x y => (b x y + h (x + 1) y + 1) / 2) ∧
    predicts .qpel32k (fun x y => (j x y + h (x + 1) y + 1) / 2) ∧
    predicts .qpel33r (fun x y => (h (x + 1) y + b x (y + 1) + 1) / 2)

/-- The centre half sample is the same whichever direction is filtered first, and every luma phase of 8-bit samples is an 8-bit sample (48_interp_transform.md R681, R682). -/
def Obligations.LumaFilterIsSeparableAndInRange : Prop :=
  ∀ (r : Samples) (x y : Int),
    halfJ r x y = clip1 ((tapV r (x - 2) y - 5 * tapV r (x - 1) y + 20 * tapV r x y + 20 * tapV r (x + 1) y
      - 5 * tapV r (x + 2) y + tapV r (x + 3) y + 512) / 1024) ∧
    ((∀ a b, 0 ≤ r a b ∧ r a b ≤ 255) →
      ∀ p ∈ [phase00, phase01, phase02, phase03, phase10, phase11, phase12, phase13, phase20, phase21, phase22, phase23,
        phase30, phase31, phase32, phase33], 0 ≤ p r x y ∧ p r x y ≤ 255)

/-- The 64 chroma phases for the partition, list and component in progress: the four samples around the position, weighted by the eighths; only that component's prediction changes (48_interp_transform.md R691). -/
def Obligations.ChromaPhases : Prop :=
  ∀ p ∈ cpelOps, ∀ s : State,
    let fx : Int := (p.2 / 8 : Nat)
    let fy : Int := (p.2 % 8 : Nat)
    let r (x y : Int) : Int := s.refSample (s.partMotion.refPic.getD 0) s.wk.comp x y
    let q := s.wk.part
    let x0 : Int := (8 * s.mbX + q.x / 2 : Nat) + s.partMotion.mv.x / 8
    let y0 : Int := (8 * s.mbY + q.y / 2 : Nat) + s.partMotion.mv.y / 8
    exec p.1 s = .next (s.setWk (s.wk.setPartPred s.wk.comp (block (q.w / 2) (q.h / 2) fun x y =>
      ((8 - fx) * (8 - fy) * r (x0 + x) (y0 + y) + fx * (8 - fy) * r (x0 + x + 1) (y0 + y)
        + (8 - fx) * fy * r (x0 + x) (y0 + y + 1) + fx * fy * r (x0 + x + 1) (y0 + y + 1) + 32) / 64)))

/-! ## Transforms -/

/-- The 4x4 residual kernels: the scaling, the transform that shares it, chroma AC with its DC already scaled; a block of zero levels has a zero residual, and a block with only a DC coefficient a flat one, as the full transform gives (48_interp_transform.md R730, R731, R734, R739, R740). -/
def Obligations.Residual4x4 : Prop :=
  ∀ s : State,
    let qp := s.wk.qp
    let ls (r : Nat) : Int := at0 (s.levelScale4 s.wk.listIdx (qp % 6)) r
    let scaled (dcDone : Bool) : List Int := (List.range 16).map fun r =>
      let c := at0 s.wk.lvl (zz4.idxOf r)
      if dcDone ∧ r = 0 then c
      else if qp ≥ 24 then c * ls r * 2 ^ (qp / 6 - 4)
      else (c * ls r + 2 ^ (3 - qp / 6)) / 2 ^ (4 - qp / 6)
    let row (d : List Int) (y x : Nat) : Int :=
      let d' (k : Nat) := at0 d (4 * y + k)
      if x = 0 then d' 0 + d' 2 + (d' 1 + d' 3 / 2) else if x = 1 then d' 0 - d' 2 + (d' 1 / 2 - d' 3)
      else if x = 2 then d' 0 - d' 2 - (d' 1 / 2 - d' 3) else d' 0 + d' 2 - (d' 1 + d' 3 / 2)
    let col (d : List Int) (y x : Nat) : Int :=
      let f (k : Nat) := row d k x
      if y = 0 then f 0 + f 2 + (f 1 + f 3 / 2) else if y = 1 then f 0 - f 2 + (f 1 / 2 - f 3)
      else if y = 2 then f 0 - f 2 - (f 1 / 2 - f 3) else f 0 + f 2 - (f 1 + f 3 / 2)
    let residual (d : List Int) : List Int := block 4 4 fun x y => (col d y x + 32) / 64
    exec .dequantBranches s = .next (s.setWk { s.wk with coef := scaled s.wk.dcDone }) ∧
    exec .idct4x4 s = .next (s.setWk { s.wk with coef := scaled s.wk.dcDone, res := residual (scaled s.wk.dcDone) }) ∧
    exec .chromaAc s = .next (s.setWk { s.wk with dcDone := true, coef := scaled true, res := residual (scaled true) }) ∧
    (∃ t, exec .zeroBlock s = .next t ∧
      t = s.setWk { s.wk with coef := List.replicate (s.wk.size * s.wk.size) 0, res := List.replicate (s.wk.size * s.wk.size) 0 } ∧
      (s.wk.size = 4 → (∀ v ∈ s.wk.lvl, v = 0) → exec .idct4x4 s = .next t) ∧
      (s.wk.size = 8 → (∀ v ∈ s.wk.lvl, v = 0) → exec .idct8x8 s = .next t)) ∧
    (∃ t, exec .dcOnly4x4 s = .next t ∧
      t = s.setWk { s.wk with coef := scaled s.wk.dcDone, res := List.replicate 16 ((at0 (scaled s.wk.dcDone) 0 + 32) / 64) } ∧
      ((∀ k, 1 ≤ k → k < 16 → at0 s.wk.lvl k = 0) → exec .idct4x4 s = .next t))

/-- The DC transforms: `f = T c T` over the block in scan order for luma, the 2x2 sums and differences for chroma, then their scaling; nothing but the transformed DC changes (48_interp_transform.md R732, R733). -/
def Obligations.DcTransforms : Prop :=
  ∀ s : State,
    let qp := s.wk.qp
    let ls := at0 (s.levelScale4 s.wk.listIdx (qp % 6)) 0
    let c (y x : Nat) : Int := at0 s.wk.lvl (zz4.idxOf (4 * y + x))
    let t (i j : Nat) : Int := ([[1, 1, 1, 1], [1, 1, -1, -1], [1, -1, -1, 1], [1, -1, 1, -1]].getD i []).getD j 0
    let f (y x : Nat) : Int := ((List.range 4).map fun i => ((List.range 4).map fun j => t y i * c i j * t j x).sum).sum
    let l := at0 s.wk.lvl
    let dcY := block 4 4 fun x y =>
      if qp ≥ 36 then f y x * ls * 2 ^ (qp / 6 - 6) else (f y x * ls + 2 ^ (5 - qp / 6)) / 2 ^ (6 - qp / 6)
    let dcC : List Int :=
      [(l 0 + l 1 + l 2 + l 3) * ls * 2 ^ (qp / 6) / 32, (l 0 - l 1 + l 2 - l 3) * ls * 2 ^ (qp / 6) / 32,
       (l 0 + l 1 - l 2 - l 3) * ls * 2 ^ (qp / 6) / 32, (l 0 - l 1 - l 2 + l 3) * ls * 2 ^ (qp / 6) / 32]
    exec .lumaDc4x4 s = .next (s.setWk { s.wk with dcY := dcY }) ∧ exec .chromaDc2x2 s = .next (s.setWk { s.wk with dcC := dcC })

/-- The 8x8 residual: scaling, the transform of every row and then of every column, rounding (48_interp_transform.md R735). -/
def Obligations.Residual8x8 : Prop :=
  ∀ s : State,
    let qp := s.wk.qp
    let ls (r : Nat) : Int := at0 (s.levelScale8 s.wk.listIdx (qp % 6)) r
    let scaled : List Int := (List.range 64).map fun r =>
      let c := at0 s.wk.lvl (zz8.idxOf r)
      if qp ≥ 36 then c * ls r * 2 ^ (qp / 6 - 6) else (c * ls r + 2 ^ (5 - qp / 6)) / 2 ^ (6 - qp / 6)
    let t8 (d : Nat → Int) (k : Nat) : Int :=
      let b0 := d 0 + d 4 + (d 2 + d 6 / 2)
      let b2 := d 0 - d 4 + (d 2 / 2 - d 6)
      let b4 := d 0 - d 4 - (d 2 / 2 - d 6)
      let b6 := d 0 + d 4 - (d 2 + d 6 / 2)
      let a1 := -d 3 + d 5 - d 7 - d 7 / 2
      let a3 := d 1 + d 7 - d 3 - d 3 / 2
      let a5 := -d 1 + d 7 + d 5 + d 5 / 2
      let a7 := d 3 + d 5 + d 1 + d 1 / 2
      [b0 + (a7 - a1 / 4), b2 + (a3 / 4 - a5), b4 + (a3 + a5 / 4), b6 + (a1 + a7 / 4),
       b6 - (a1 + a7 / 4), b4 - (a3 + a5 / 4), b2 - (a3 / 4 - a5), b0 - (a7 - a1 / 4)].getD k 0
    let row (y x : Nat) : Int := t8 (fun k => at0 scaled (8 * y + k)) x
    exec .idct8x8 s = .next (s.setWk { s.wk with
      coef := scaled, res := block 8 8 fun x y => (t8 (fun k => row k x) y + 32) / 64 })

/-- Reconstruction: every sample of the block in progress is the prediction plus the residual, clipped to 8 bits, at its place in its plane; no other sample of the planes changes (48_interp_transform.md R738, 46_mb_decoders.md R552). -/
def Obligations.ReconstructionClips : Prop :=
  ∀ s : State,
    let w := s.wk
    let pw := if w.plane = 0 then 16 else 8
    let pred := if w.plane = 0 then w.predY else if w.plane = 1 then w.predCb else w.predCr
    let plane (m : MbRec) : List Int := if w.plane = 0 then m.reconY else if w.plane = 1 then m.reconCb else m.reconCr
    ∃ t, exec .reconClip s = .next t ∧ t = s.setMb t.mb ∧ (plane t.mb).length = (plane s.mb).length ∧
      t.mb = { s.mb with
        reconY := (if w.plane = 0 then plane t.mb else s.mb.reconY),
        reconCb := (if w.plane = 1 then plane t.mb else s.mb.reconCb),
        reconCr := (if w.plane = 0 ∨ w.plane = 1 then s.mb.reconCr else plane t.mb) } ∧
      ∀ i, i < (plane s.mb).length → at0 (plane t.mb) i =
        if w.bx ≤ i % pw ∧ i % pw < w.bx + w.size ∧ w.by' ≤ i / pw ∧ i / pw < w.by' + w.size then
          max 0 (min 255 (at0 pred i + at0 w.res (w.size * (i / pw - w.by') + (i % pw - w.bx))))
        else at0 (plane s.mb) i

/-! ## Reference lists and marking -/

/-- The modification commands: the picture number is predicted and wrapped, the frame it names (the lowest handle, if several have it: log entry 21) goes to the next position and its later copies leave the list; a command that is out of range or names no frame raises `E_INVALID`; the end makes the list, cut to its length, the slice's. A frame that is not long-term has the key `2 * (MaxLongTermFrameIdx + 1)` (49_reflist.md R760, R786, R795, R796, R799). -/
def Obligations.ListModification : Prop :=
  ∀ (s : State) (v : Nat),
    let h := s.hdr
    let maxPic : Int := h.sps.maxFrameNum
    let next := s.push [.fetch .rplm]
    let pn (g : Nat) : Int := if (s.frame g).frameNum > h.frameNum then (s.frame g).frameNum - maxPic else (s.frame g).frameNum
    let moved (f : Nat) (gone : Nat → Prop) [DecidablePred gone] : List (Option Nat) :=
      let l := s.wk.rplmList
      let rest := (l.drop s.wk.rplmIdx).take (l.length - 1 - s.wk.rplmIdx)
      let kept := rest.filter fun e => match e with
        | none => true
        | some g => decide (¬ gone g)
      l.take s.wk.rplmIdx ++ some f :: (kept ++ rest.drop kept.length)
    (∀ (i : Instr) (d : Int), (i = .rplmSub v ∧ d = s.wk.picNumPred - (v + 1)) ∨ (i = .rplmAdd v ∧ d = s.wk.picNumPred + (v + 1)) →
      let noWrap := if i = .rplmSub v then (if d < 0 then d + maxPic else d) else if d ≥ maxPic then d - maxPic else d
      let n := if noWrap > h.frameNum then noWrap - maxPic else noWrap
      let is (g : Nat) : Prop := (s.frame g).mark = .shortTerm ∧ pn g = n
      ((v : Int) + 1 > maxPic → exec i s = .next (next.raise .invalid)) ∧
      ((v : Int) + 1 ≤ maxPic → (∀ g, g < s.fs.length → ¬ is g) →
        exec i s = .next ((next.setWk { s.wk with picNumPred := noWrap }).raise .invalid)) ∧
      (∀ f, (v : Int) + 1 ≤ maxPic → f < s.fs.length → is f → (∀ g, g < f → ¬ is g) →
        exec i s = .next (next.setWk { s.wk with
          picNumPred := noWrap, rplmIdx := s.wk.rplmIdx + 1, rplmList := moved f is }))) ∧
    (let is (g : Nat) : Prop := (s.frame g).mark = .longTerm ∧ (s.frame g).longTermFrameIdx = v
     let key (g : Nat) : Nat := if (s.frame g).mark = .longTerm then (s.frame g).longTermFrameIdx
       else (s.maxLongTermFrameIdx.map fun m => 2 * (m + 1)).getD 0
     ((∀ g, g < s.fs.length → ¬ is g) → exec (.rplmLong v) s = .next (next.raise .invalid)) ∧
     (∀ f, f < s.fs.length → is f → (∀ g, g < f → ¬ is g) →
       exec (.rplmLong v) s = .next (next.setWk { s.wk with
         rplmIdx := s.wk.rplmIdx + 1, rplmList := moved f fun g => key g = v }))) ∧
    (let l := s.wk.rplmList.take (s.wk.rplmList.length - 1)
     exec .rplmEnd s = .next (s.setSl (s.sl.map fun h => if s.wk.rplmX = 0 then { h with list0 := l } else { h with list1 := l })))

/-- The marking operations 1 to 6: each unmarks or marks the frame it names (the lowest handle, if several are named: log entry 21) and changes no other frame; an operation that names no such frame, or an index out of range, records `E_MARK` and does nothing else (49_reflist.md R773-R777, R779, R782). -/
def Obligations.MarkingOperations : Prop :=
  ∀ s : State,
    let next := s.push [.fetch .mmco]
    let n := s.fs.length
    let pn (g : Nat) : Int := if (s.frame g).frameNum > s.first.frameNum then ((s.frame g).frameNum : Int) - s.first.sps.maxFrameNum
      else (s.frame g).frameNum
    let short (d g : Nat) : Prop := (s.frame g).mark = .shortTerm ∧ pn g = (s.first.frameNum : Int) - (d + 1)
    let long (k g : Nat) : Prop := (s.frame g).mark = .longTerm ∧ (s.frame g).longTermFrameIdx = k
    let lowest (is : Nat → Prop) (f : Nat) : Prop := f < n ∧ is f ∧ ∀ g, g < f → ¬ is g
    let absent (is : Nat → Prop) : Prop := ∀ g, g < n → ¬ is g
    let allowed (k : Nat) : Prop := ∃ m, s.maxLongTermFrameIdx = some m ∧ k ≤ m
    let skipped (i : Instr) : Prop := exec i s = .next (next.setCsr
      (s.csr.latched 6 s.au.nalIndex (if s.csr.fsm = .decoding then s.ds.currMbAddr else 0xFFFF) 0))
    (∀ d, (absent (short d) → skipped (.mmcoShortUnused d)) ∧
      (∀ f, lowest (short d) f → ∃ t, exec (.mmcoShortUnused d) s = .next t ∧ t = next.setFs t.fs ∧ sameFramesBut s t f ∧
        t.frame f = s.unmarkedFrame f)) ∧
    (∀ k, (absent (long k) → skipped (.mmcoLongUnused k)) ∧
      (∀ f, lowest (long k) f → ∃ t, exec (.mmcoLongUnused k) s = .next t ∧ t = next.setFs t.fs ∧ sameFramesBut s t f ∧
        t.frame f = s.unmarkedFrame f)) ∧
    (∀ d k, (¬ allowed k ∨ absent (short d) → skipped (.mmcoShortToLong d k)) ∧
      (∀ f, allowed k → lowest (short d) f → ∃ t, exec (.mmcoShortToLong d k) s = .next t ∧ t = next.setFs t.fs ∧
        t.fs.length = n ∧ t.frame f = { s.frame f with mark := .longTerm, longTermFrameIdx := k } ∧
        ∀ g, g ≠ f → (lowest (long k) g → t.frame g = s.unmarkedFrame g) ∧ (¬ lowest (long k) g → t.frame g = s.frame g))) ∧
    (∀ p, (p > 16 → skipped (.mmcoMaxLongIdx p)) ∧
      (p ≤ 16 → ∃ t, exec (.mmcoMaxLongIdx p) s = .next t ∧
        t = (next.setFs t.fs).setMaxLong (if p = 0 then none else some (p - 1)) ∧ t.fs.length = n ∧
        ∀ g, g < n → t.frame g = if (s.frame g).mark = .longTerm ∧ (s.frame g).longTermFrameIdx ≥ p then s.unmarkedFrame g
          else s.frame g)) ∧
    (∀ h, s.au.curFrame = some h → h < n → ∃ t, exec .mmcoAllUnused s = .next t ∧ t = (next.setFs t.fs).setMaxLong none ∧
      t.fs.length = n ∧ t.frame h = { s.frame h with hadMmco5 := true } ∧
      ∀ g, g < n → g ≠ h → t.frame g = if (s.frame g).mark = .unused then s.frame g else s.unmarkedFrame g) ∧
    (∀ k, (¬ allowed k → skipped (.mmcoCurToLong k)) ∧
      (∀ h, allowed k → s.au.curFrame = some h → h < n → ∃ t, exec (.mmcoCurToLong k) s = .next t ∧
        t = (next.setFs t.fs).setWk { s.wk with curLong := true } ∧ t.fs.length = n ∧
        t.frame h = { s.frame h with mark := .longTerm, longTermFrameIdx := k } ∧
        ∀ g, g ≠ h → (lowest (long k) g → t.frame g = s.unmarkedFrame g) ∧ (¬ lowest (long k) g → t.frame g = s.frame g)))

/-- The end of the marking operations: the current frame is short-term unless operation 6 marked it, after operation 5 its counts start again from 0; while more frames are marked than allowed, the short-term ones with the smallest `FrameNumWrap` lose their mark, and `E_MARK` is recorded (49_reflist.md R778, R780, R781). That after operation 5 topPoc and bottomPoc keep the exact difference, where 10_state.md gives the fields signed 32 bits, is the model's choice (log entry 46). -/
def Obligations.MarkingEnd : Prop :=
  ∀ (s : State) (h : Nat), s.au.curFrame = some h → h < s.fs.length →
    let marked (fs : List Frame) : Nat := (fs.filter fun f => decide (f.mark ≠ .unused)).length
    let f1 := if s.wk.curLong then s.frame h else { s.frame h with mark := .shortTerm }
    let temp := min f1.topPoc f1.bottomPoc
    let f2 := if f1.hadMmco5 then { f1 with topPoc := f1.topPoc - temp, bottomPoc := f1.bottomPoc - temp, poc := 0, frameNum := 0 }
      else f1
    let bound := max s.first.sps.maxNumRefFrames 1
    let wrap (g : Nat) : Int := if (s.frame g).frameNum > s.first.frameNum then
      ((s.frame g).frameNum : Int) - s.first.sps.maxFrameNum else (s.frame g).frameNum
    ∃ t, exec .mmcoEnd s = .next t ∧ t.frame h = f2 ∧ t.fs.length = s.fs.length ∧
      (marked (s.fs.set h f2) ≤ bound → t = s.setFs (s.fs.set h f2)) ∧
      (marked (s.fs.set h f2) > bound →
        t = (s.setFs t.fs).setCsr
          (s.csr.latched 6 s.au.nalIndex (if s.csr.fsm = .decoding then s.ds.currMbAddr else 0xFFFF) 0) ∧
        marked t.fs ≥ bound ∧
        (marked t.fs > bound → ∀ g, g ≠ h → (t.frame g).mark ≠ .shortTerm) ∧
        (∀ g, g ≠ h → t.frame g = s.frame g ∨ ((s.frame g).mark = .shortTerm ∧ t.frame g = s.unmarkedFrame g)) ∧
        ∀ g k, g ≠ h → k ≠ h → (s.frame g).mark = .shortTerm → (t.frame g).mark = .unused → (t.frame k).mark = .shortTerm →
          wrap g ≤ wrap k)
end

