-- ==== Sys2Proof/Laws/BoxOut.lean ====
section
/-! SUPPORT. What the box-out walk does (43_slice_fsm.md R368): its places, the units it takes, and that it takes `U0` of them before its fuel ends. -/

namespace Sys2Proof.Machine

/-! ## The places of the walk -/

/-- The place that a state of the walk stands at. -/
def BoxOut.place (b : BoxOut) : BoxPlace := ⟨b.x, b.y, b.left, b.top, b.right, b.bottom, b.xDir, b.yDir⟩

/-- The unit of a place. -/
def BoxPlace.unit (w : Nat) (p : BoxPlace) : Nat := (p.y * w + p.x).toNat

/-- A place of the walk: in the box, the box in the picture, on the side of the box that it walks along. -/
def BoxPlace.Ok (w h dir : Nat) (p : BoxPlace) : Prop :=
  (0 ≤ p.left ∧ p.left ≤ p.x ∧ p.x ≤ p.right ∧ p.right < w) ∧ (0 ≤ p.top ∧ p.top ≤ p.y ∧ p.y ≤ p.bottom ∧ p.bottom < h) ∧
  ((p.xDir = -1 ∧ p.yDir = 0 ∧ (dir = 0 → p.y = p.bottom) ∧ (dir = 1 → p.y = p.top)) ∨
   (p.xDir = 1 ∧ p.yDir = 0 ∧ (dir = 0 → p.y = p.top) ∧ (dir = 1 → p.y = p.bottom)) ∨
   (p.xDir = 0 ∧ p.yDir = -1 ∧ (dir = 0 → p.x = p.left) ∧ (dir = 1 → p.x = p.right)) ∨
   (p.xDir = 0 ∧ p.yDir = 1 ∧ (dir = 0 → p.x = p.right) ∧ (dir = 1 → p.x = p.left)))

/-- The unit `(x, y)` lies in the box. -/
def BoxPlace.Holds (p : BoxPlace) (x y : Int) : Prop := p.left ≤ x ∧ x ≤ p.right ∧ p.top ≤ y ∧ y ≤ p.bottom

/-- The unit `(x, y)` lies at the place or ahead of it. -/
def BoxPlace.Ahead (p : BoxPlace) (x y : Int) : Prop :=
  (p.xDir = -1 ∧ y = p.y ∧ x ≤ p.x) ∨ (p.xDir = 1 ∧ y = p.y ∧ p.x ≤ x) ∨
  (p.yDir = -1 ∧ x = p.x ∧ y ≤ p.y) ∨ (p.yDir = 1 ∧ x = p.x ∧ p.y ≤ y)

/-- How many units lie ahead on the side. -/
def BoxPlace.dist (p : BoxPlace) : Int :=
  if p.xDir = -1 then p.x - p.left else if p.xDir = 1 then p.right - p.x else if p.yDir = -1 then p.y - p.top else p.bottom - p.y

/-- Of four sides in the order the walk meets them: four turns for each line outside the box, and the turns to the next side that can grow. -/
def turnsLeft (a b c d : Int) : Int :=
  4 * (a + b + c + d) + (if a > 0 then 0 else if b > 0 then 1 else if c > 0 then 2 else if d > 0 then 3 else 0)

/-- A bound on the turns until the box is the picture. -/
def BoxPlace.turns (w h dir : Nat) (p : BoxPlace) : Int :=
  let l := p.left
  let t := p.top
  let r := w - 1 - p.right
  let b := h - 1 - p.bottom
  if dir = 0 then
    (if p.xDir = -1 then turnsLeft l t r b else if p.yDir = -1 then turnsLeft t r b l
     else if p.xDir = 1 then turnsLeft r b l t else turnsLeft b l t r)
  else
    (if p.xDir = -1 then turnsLeft l b r t else if p.yDir = 1 then turnsLeft b r t l
     else if p.xDir = 1 then turnsLeft r t l b else turnsLeft t l b r)

theorem BoxPlace.first_ok {w h dir : Nat} (hw : 0 < w) (hh : 0 < h) (hd : dir ≤ 1) : (BoxPlace.first w h dir).Ok w h dir := by
  obtain rfl | rfl : dir = 0 ∨ dir = 1 := by omega
  all_goals simp [BoxPlace.first, BoxPlace.Ok]; omega

/-- What the next place is: a place; a unit of its box that is not ahead of it was in the box before, and ahead only if it was the place itself; and fewer units lie ahead, or fewer turns, unless the box is the picture and nothing lies ahead. -/
theorem BoxPlace.next_spec {w h dir : Nat} {p : BoxPlace} (hd : dir ≤ 1) (hp : p.Ok w h dir) :
    (p.next w h dir).Ok w h dir ∧
    (∀ x y, (p.next w h dir).Holds x y →
      (p.next w h dir).Ahead x y ∨ (p.Holds x y ∧ (p.Ahead x y → x = p.x ∧ y = p.y))) ∧
    (((p.next w h dir).turns w h dir = p.turns w h dir ∧ (p.next w h dir).dist < p.dist) ∨
     (p.next w h dir).turns w h dir < p.turns w h dir ∨
     (∀ x y : Int, 0 ≤ x → x < w → 0 ≤ y → y < h → p.Holds x y ∧ (p.Ahead x y → x = p.x ∧ y = p.y))) := by
  obtain ⟨px, py, l, t, r, b, dx, dy⟩ := p
  obtain ⟨hx, hy, hs⟩ := hp
  dsimp only at hx hy hs
  obtain rfl | rfl : dir = 0 ∨ dir = 1 := by omega
  all_goals
    rcases hs with ⟨rfl, rfl, h0, h1⟩ | ⟨rfl, rfl, h0, h1⟩ | ⟨rfl, rfl, h0, h1⟩ | ⟨rfl, rfl, h0, h1⟩
    all_goals
      simp [BoxPlace.next] at h0 h1 ⊢
      split
      all_goals
        refine ⟨?_, ?_, ?_⟩
        · simp [BoxPlace.Ok]; omega
        · intro x y hb; simp [BoxPlace.Holds, BoxPlace.Ahead] at hb ⊢; omega
        · simp [BoxPlace.turns, turnsLeft, BoxPlace.dist, BoxPlace.Holds, BoxPlace.Ahead] <;>
            first
            | (left; omega)
            | (right
               by_cases full : l = 0 ∧ t = 0 ∧ r = w - 1 ∧ b = h - 1
               · right; omega
               · left; omega)

/-! ## The walk -/

/-- A unit of the picture has an entry of the map. -/
theorem unit_lt {w h : Nat} {x y : Int} (hx : 0 ≤ x) (hxw : x < w) (hy : 0 ≤ y) (hyh : y < h) :
    (y * w + x).toNat < w * h := by
  obtain ⟨x, rfl⟩ := Int.eq_ofNat_of_zero_le hx
  obtain ⟨y, rfl⟩ := Int.eq_ofNat_of_zero_le hy
  have h1 : w * (y + 1) ≤ w * h := Nat.mul_le_mul_left w (by omega)
  have h2 : ((y : Int) * w + x).toNat = w * y + x := by
    rw [← Int.natCast_mul, ← Int.natCast_add, Int.toNat_natCast, Nat.mul_comm]
  rw [Nat.mul_add] at h1
  omega

/-- What the walk keeps: at a place, zeros taken and ones not, `k` the zeros, and every unit of the box taken or ahead. -/
structure BoxOut.Sound (a : MapArgs) (b : BoxOut) : Prop where
  ok : b.place.Ok a.wm a.hm a.dir
  length : b.map.length = a.size
  bits : ∀ v ∈ b.map, v = 0 ∨ v = 1
  count : b.k = b.map.count 0
  taken : ∀ x y, b.place.Holds x y → b.map[(y * a.wm + x).toNat]? = some 0 ∨ b.place.Ahead x y

@[simp] theorem BoxOut.take_place (a : MapArgs) (b : BoxOut) : (b.take a).place = b.place := by
  unfold BoxOut.take BoxOut.place; dsimp only; split <;> rfl

@[simp] theorem BoxOut.move_map (a : MapArgs) (b : BoxOut) : (b.move a).map = b.map := by
  unfold BoxOut.move; repeat' split
  all_goals rfl

@[simp] theorem BoxOut.move_k (a : MapArgs) (b : BoxOut) : (b.move a).k = b.k := by
  unfold BoxOut.move; repeat' split
  all_goals rfl

@[simp] theorem BoxOut.move_place (a : MapArgs) (b : BoxOut) : (b.move a).place = b.place.next a.wm a.hm a.dir := by
  unfold BoxOut.move BoxPlace.next BoxOut.place
  dsimp only
  repeat' split
  all_goals rfl

theorem BoxOut.Sound.unit_lt {a : MapArgs} {b : BoxOut} (hb : b.Sound a) : b.place.unit a.wm < b.map.length := by
  obtain ⟨hx, hy, -⟩ := hb.ok
  rw [hb.length]
  exact Machine.unit_lt (by omega) (by omega) (by omega) (by omega)

/-- A turn takes the unit of its place. -/
theorem BoxOut.Sound.take_map {a : MapArgs} {b : BoxOut} (hb : b.Sound a) :
    (b.take a).map = b.map.set (b.place.unit a.wm) 0 ∧ (b.take a).k = (b.map.set (b.place.unit a.wm) 0).count 0 := by
  have hi := hb.unit_lt
  have h0 := hb.bits _ (List.getElem_mem hi)
  have hc := hb.count
  unfold BoxOut.take
  rw [show (b.y * a.wm + b.x).toNat = b.place.unit a.wm from rfl]
  generalize b.place.unit a.wm = i at *
  dsimp only
  rw [List.getD_eq_getElem?_getD, List.getElem?_eq_getElem hi, Option.getD_some]
  split <;> rename_i h1
  · refine ⟨rfl, ?_⟩
    rw [List.count_set hi, h1, hc]
    simp
  · have h : b.map.set i 0 = b.map := by rw [← h0.resolve_right h1, List.set_getElem_self hi]
    rw [h]
    exact ⟨rfl, hc⟩

/-- A unit taken stays taken, and the one of the place is taken. -/
theorem BoxOut.Sound.turn {a : MapArgs} {b : BoxOut} (hd : a.dir ≤ 1) (hb : b.Sound a) : (b.turn a).Sound a := by
  obtain ⟨hm, hk⟩ := hb.take_map
  obtain ⟨hok, hh, -⟩ := BoxPlace.next_spec hd hb.ok
  have hi := hb.unit_lt
  refine ⟨by simpa [BoxOut.turn] using hok, by simp [BoxOut.turn, hm, hb.length], ?_, by simp [BoxOut.turn, hm, hk], ?_⟩
  · intro v hv
    simp only [BoxOut.turn, BoxOut.move_map, hm] at hv
    rcases List.mem_or_eq_of_mem_set hv with h | h
    · exact hb.bits v h
    · exact .inl h
  · intro x y hxy
    simp only [BoxOut.turn, BoxOut.move_map, hm, BoxOut.move_place, BoxOut.take_place] at hxy ⊢
    rcases hh x y hxy with h | ⟨hold, hat⟩
    · exact .inr h
    · left
      rw [List.getElem?_set]
      split
      · simp
      · rename_i hne
        rcases hb.taken x y hold with h | h
        · exact h
        · obtain ⟨rfl, rfl⟩ := hat h
          exact absurd rfl hne

/-- With the whole box taken and the box the picture, every unit is. -/
theorem BoxOut.Sound.full {a : MapArgs} {b : BoxOut} (hb : b.Sound a) (hw : 0 < a.wm)
    (h : ∀ x y : Int, 0 ≤ x → x < a.wm → 0 ≤ y → y < a.hm → b.map[(y * a.wm + x).toNat]? = some 0) : b.k = a.size := by
  rw [hb.count, ← hb.length, List.count_eq_length]
  intro v hv
  obtain ⟨i, hi, rfl⟩ := List.mem_iff_getElem.1 hv
  have hi' : i < a.wm * a.hm := by rw [hb.length] at hi; exact hi
  have h1 : i / a.wm < a.hm := Nat.div_lt_of_lt_mul hi'
  have h2 := Nat.mod_lt i hw
  have h3 := h (i % a.wm : Nat) (i / a.wm : Nat) (Int.natCast_nonneg _) (by omega) (Int.natCast_nonneg _) (by omega)
  rw [← Int.natCast_mul, ← Int.natCast_add, Int.toNat_natCast, Nat.mul_comm, Nat.div_add_mod, List.getElem?_eq_getElem hi] at h3
  exact (Option.some.inj h3).symm

/-- The turns to go: along the side, and one side for each turn at a corner. -/
def BoxOut.todo (a : MapArgs) (b : BoxOut) : Int :=
  b.place.turns a.wm a.hm a.dir * (a.wm + a.hm) + b.place.dist

theorem BoxPlace.Ok.dist_bounds {w h dir : Nat} {p : BoxPlace} (hp : p.Ok w h dir) : 0 ≤ p.dist ∧ p.dist < w + h := by
  obtain ⟨hx, hy, -⟩ := hp
  unfold BoxPlace.dist
  repeat' split
  all_goals omega

theorem BoxPlace.Ok.turns_bounds {w h dir : Nat} {p : BoxPlace} (hp : p.Ok w h dir) :
    0 ≤ p.turns w h dir ∧ p.turns w h dir ≤ 4 * (w + h) + 3 := by
  obtain ⟨hx, hy, -⟩ := hp
  unfold BoxPlace.turns turnsLeft
  dsimp only
  repeat' split
  all_goals omega

/-- A turn leaves fewer turns to go, or every unit is taken. -/
theorem BoxOut.Sound.turn_todo {a : MapArgs} {b : BoxOut} (hd : a.dir ≤ 1) (hw : 0 < a.wm) (hb : b.Sound a) :
    (b.turn a).todo a < b.todo a ∨ (b.turn a).k = a.size := by
  have ht := hb.turn hd
  have hp : (b.turn a).place = b.place.next a.wm a.hm a.dir := by simp [BoxOut.turn]
  obtain ⟨-, -, ⟨h1, h2⟩ | h | h⟩ := BoxPlace.next_spec hd hb.ok
  · left
    unfold BoxOut.todo
    rw [hp, h1]
    omega
  · left
    have hd' := ht.ok.dist_bounds
    have hd0 := hb.ok.dist_bounds
    unfold BoxOut.todo
    rw [hp] at hd' ⊢
    have := Int.mul_le_mul_of_nonneg_right (Int.add_one_le_iff.2 h) (c := ((a.wm : Int) + a.hm)) (by omega)
    rw [Int.add_mul] at this
    omega
  · right
    refine ht.full hw fun x y hx hxw hy hyh => ?_
    obtain ⟨hin, hat⟩ := h x y hx hxw hy hyh
    have hm : (b.turn a).map = b.map.set (b.place.unit a.wm) 0 := by simp [BoxOut.turn, hb.take_map.1]
    rw [hm, List.getElem?_set]
    split
    · simp [hb.unit_lt]
    · rename_i hne
      rcases hb.taken x y hin with h | h
      · exact h
      · obtain ⟨rfl, rfl⟩ := hat h
        exact absurd rfl hne

theorem BoxOut.turn_k (a : MapArgs) (b : BoxOut) : (b.turn a).k ≤ b.k + 1 := by
  simp only [BoxOut.turn, BoxOut.move_k, BoxOut.take]
  split <;> simp

/-- With fuel for the turns to go, the walk takes `U0` units. -/
theorem BoxOut.Sound.walk_takes {a : MapArgs} (hd : a.dir ≤ 1) (hw : 0 < a.wm) (hu : a.u0 ≤ a.size) (fuel : Nat) :
    ∀ b : BoxOut, b.Sound a → b.k ≤ a.u0 → b.todo a < fuel → (BoxOut.walk a fuel b).k = a.u0 ∧ (BoxOut.walk a fuel b).Sound a := by
  induction fuel with
  | zero =>
    intro b hb _ ht
    have h1 := Int.mul_nonneg hb.ok.turns_bounds.1 (show (0 : Int) ≤ a.wm + a.hm by omega)
    have h2 := hb.ok.dist_bounds.1
    unfold BoxOut.todo at ht
    omega
  | succ f ih =>
    intro b hb hk ht
    unfold BoxOut.walk
    split
    · rename_i hlt
      have hk' := BoxOut.turn_k a b
      rcases hb.turn_todo hd hw with h | h
      · exact ih _ (hb.turn hd) (by omega) (by omega)
      · have hs := hb.turn hd
        cases f with
        | zero => exact ⟨by simp only [BoxOut.walk]; omega, hs⟩
        | succ f => rw [BoxOut.walk, if_neg (by omega)]; exact ⟨by omega, hs⟩
    · exact ⟨by omega, hb⟩

/-- The units that the walk takes are those of its first places. -/
theorem BoxOut.Sound.walk_units {a : MapArgs} (hd : a.dir ≤ 1) (fuel : Nat) :
    ∀ b : BoxOut, b.Sound a → ∃ n, ∀ i, i < a.size → (BoxOut.walk a fuel b).map[i]? =
      if i ∈ BoxPlace.units a.wm a.hm a.dir n b.place then some 0 else b.map[i]? := by
  induction fuel with
  | zero => exact fun b _ => ⟨0, fun i _ => by simp [BoxOut.walk, BoxPlace.units]⟩
  | succ f ih =>
    intro b hb
    unfold BoxOut.walk
    split
    · obtain ⟨n, hn⟩ := ih _ (hb.turn hd)
      refine ⟨n + 1, fun i hi => ?_⟩
      have hlen := hb.unit_lt
      rw [hn i hi]
      simp only [BoxOut.turn, BoxOut.move_place, BoxOut.take_place, BoxOut.move_map, hb.take_map.1, BoxPlace.units, List.mem_cons]
      rw [List.getElem?_set]
      change _ = if i = b.place.unit a.wm ∨ _ then _ else _
      by_cases h : i = b.place.unit a.wm
      · subst h; simp [hlen]
      · simp [h, Ne.symm h]
    · exact ⟨0, fun i _ => by simp [BoxPlace.units]⟩

/-- The state of the walk at its start. -/
def BoxOut.first (a : MapArgs) : BoxOut :=
  let p := BoxPlace.first a.wm a.hm a.dir
  ⟨List.replicate a.size 1, p.x, p.y, p.left, p.top, p.right, p.bottom, p.xDir, p.yDir, 0⟩

theorem BoxOut.first_sound {a : MapArgs} (hd : a.dir ≤ 1) (hw : 0 < a.wm) (hh : 0 < a.hm) : (BoxOut.first a).Sound a := by
  refine ⟨BoxPlace.first_ok hw hh hd, by simp [BoxOut.first], fun v hv => .inr (List.eq_of_mem_replicate hv), ?_, ?_⟩
  · simp [BoxOut.first, List.count_replicate]
  · intro x y hxy
    right
    obtain h | h : a.dir = 0 ∨ a.dir = 1 := by omega
    all_goals simp [BoxOut.first, BoxOut.place, BoxPlace.first, BoxPlace.Holds, BoxPlace.Ahead, h] at hxy ⊢; omega

theorem mapBoxOut_eq {a : MapArgs} (hd : a.dir ≤ 1) (hw : 0 < a.wm) (hh : 0 < a.hm) :
    mapBoxOut a = (BoxOut.walk a (4 * (a.wm + a.hm + 1) * (a.wm + a.hm + 1) + 16) (BoxOut.first a)).map := by
  have h1 : (((a.wm - a.dir) / 2 : Nat) : Int) = ((a.wm : Int) - a.dir) / 2 := by omega
  have h2 : (((a.hm - a.dir) / 2 : Nat) : Int) = ((a.hm : Int) - a.dir) / 2 := by omega
  simp only [mapBoxOut, h1, h2]
  rfl

/-- The box-out map: `U0` units in group 0, the first ones that the walk comes by, and the others in group 1. -/
theorem mapBoxOut_spec {a : MapArgs} (hd : a.dir ≤ 1) (hw : 0 < a.wm) (hh : 0 < a.hm) (hu : a.u0 ≤ a.size) :
    (mapBoxOut a).length = a.size ∧ (mapBoxOut a).count 0 = a.u0 ∧
    ∃ n, ∀ i, i < a.size → (mapBoxOut a)[i]? = some (if i ∈ boxOutUnits a.wm a.hm a.dir n then 0 else 1) := by
  have h0 := BoxOut.first_sound hd hw hh
  have ht : (BoxOut.first a).todo a < (4 * (a.wm + a.hm + 1) * (a.wm + a.hm + 1) + 16 : Nat) := by
    have h1 := Int.mul_le_mul_of_nonneg_right h0.ok.turns_bounds.2 (show (0 : Int) ≤ a.wm + a.hm by omega)
    have h2 := h0.ok.dist_bounds.2
    unfold BoxOut.todo
    have h3 : ((4 * (a.wm + a.hm + 1) * (a.wm + a.hm + 1) + 16 : Nat) : Int) =
        (4 * ((a.wm : Int) + a.hm) + 3) * (a.wm + a.hm) + 5 * (a.wm + a.hm) + 20 := by
      push_cast
      generalize (a.wm : Int) + a.hm = l
      simp only [Int.mul_add, Int.add_mul]
      omega
    omega
  rw [mapBoxOut_eq hd hw hh]
  obtain ⟨hk, hs⟩ := BoxOut.Sound.walk_takes hd hw hu _ _ h0 (Nat.zero_le _) ht
  refine ⟨hs.length, by rw [← hs.count, hk], ?_⟩
  obtain ⟨n, hn⟩ := BoxOut.Sound.walk_units hd _ _ h0
  refine ⟨n, fun i hi => ?_⟩
  rw [hn i hi]
  change (if i ∈ boxOutUnits _ _ _ n then _ else _) = _
  split <;> simp [BoxOut.first, hi]

end Sys2Proof.Machine
end

