-- ==== Sys2Proof/Laws/Codes.lean ====
section
/-! SUPPORT. Bits and Exp-Golomb codes: the value of written bits, and a codeword is read back whatever follows it (30_encoding.md R142). -/

namespace Sys2Proof

@[simp] theorem natToBits_length (n v : Nat) : (natToBits n v).length = n := by
  induction n with
  | zero => rfl
  | succ n ih => simp [natToBits, ih]

theorem foldl_natToBits (n v a : Nat) :
    (natToBits n v).foldl (fun a b => 2 * a + b.toNat) a = a * 2 ^ n + v % 2 ^ n := by
  induction n generalizing a with
  | zero => simp [natToBits, Nat.mod_one]
  | succ n ih =>
    have h : v % 2 ^ (n + 1) = v % 2 ^ n + 2 ^ n * (Nat.testBit v n).toNat := by
      rw [Nat.mod_pow_succ, Nat.testBit_eq_decide_div_mod_eq]
      rcases Nat.mod_two_eq_zero_or_one (v / 2 ^ n) with e | e <;> simp [e]
    simp only [natToBits, List.foldl_cons, ih, h]
    rw [Nat.add_mul, Nat.pow_succ, Nat.mul_comm 2 a, Nat.mul_assoc, Nat.mul_comm 2 (2 ^ n), Nat.add_assoc]
    congr 1
    rw [Nat.add_comm, Nat.mul_comm]

/-- The value of the `n` low bits of `v`. -/
theorem bitsToNat_natToBits (n v : Nat) : bitsToNat (natToBits n v) = v % 2 ^ n := by
  simpa [bitsToNat] using foldl_natToBits n v 0

/-- The scan of a prefix that ends in a 1 bit. -/
theorem ueScan_prefix (k z : Nat) (r : List Bool) (h : z + k ≤ 31) :
    ueScan z (List.replicate k false ++ true :: r) =
      if r.length < z + k then .error .truncated (z + k + 1)
      else .ok (2 ^ (z + k) - 1 + bitsToNat (r.take (z + k))) (2 * (z + k) + 1) := by
  induction k generalizing z with
  | zero => simp [ueScan]
  | succ k ih =>
    have hz : ¬ z ≥ 31 := by omega
    have e : z + 1 + k = z + (k + 1) := by omega
    simp only [List.replicate_succ, List.cons_append, ueScan, if_neg hz]
    rw [ih (z + 1) (by omega), e]

theorem log2_le_31 (v : Nat) (h : v < 2 ^ 32 - 1) : Nat.log2 (v + 1) ≤ 31 := by
  have : v + 1 < 2 ^ 32 := by omega
  have := (Nat.log2_lt (by omega : v + 1 ≠ 0)).2 this
  omega

@[simp] theorem ueEncode_length (v : Nat) : (ueEncode v).length = 2 * Nat.log2 (v + 1) + 1 := by
  simp [ueEncode]; omega

/-- A codeword is read back, whatever follows. -/
theorem ueDecode_ueEncode (v : Nat) (r : List Bool) (h : v < 2 ^ 32 - 1) :
    ueDecode (ueEncode v ++ r) = .ok v (ueEncode v).length := by
  have hl := log2_le_31 v h
  have hlow : 2 ^ Nat.log2 (v + 1) ≤ v + 1 := Nat.log2_self_le (by omega)
  have hhigh : v + 1 < 2 ^ (Nat.log2 (v + 1) + 1) := Nat.lt_log2_self
  have htop : Nat.testBit (v + 1) (Nat.log2 (v + 1)) = true := by
    rw [Nat.testBit_eq_decide_div_mod_eq]
    have : (v + 1) / 2 ^ Nat.log2 (v + 1) = 1 := by
      apply Nat.div_eq_of_lt_le
      · omega
      · rw [Nat.pow_succ] at hhigh; omega
    simp [this]
  have hval : (v + 1) % 2 ^ Nat.log2 (v + 1) = v + 1 - 2 ^ Nat.log2 (v + 1) := by
    rw [Nat.mod_eq_sub_mod hlow, Nat.mod_eq_of_lt]
    rw [Nat.pow_succ] at hhigh; omega
  rw [ueEncode_length]
  unfold ueDecode ueEncode
  simp only [natToBits, htop, List.append_assoc, List.cons_append]
  rw [ueScan_prefix _ 0 _ (by omega), if_neg (by simp)]
  have ht : ((natToBits (Nat.log2 (v + 1)) (v + 1)) ++ r).take (0 + Nat.log2 (v + 1))
      = natToBits (Nat.log2 (v + 1)) (v + 1) := by
    rw [List.take_append_of_le_length (by simp)]
    apply List.take_of_length_le
    simp
  rw [ht, bitsToNat_natToBits, hval]
  simp only [Nat.zero_add, CodeRes.ok.injEq, and_true]
  omega

end Sys2Proof
end

