-- ==== Sys2Proof/Laws/State.lean ====
section
/-! SUPPORT. One lemma per field and setter of State, and per field and small operation over them: later proofs unfold no record update. -/

namespace Sys2Proof.Machine

section setCsr
variable (s : State) (v : Csr)
@[simp] theorem setCsr_params : (s.setCsr v).params = s.params := rfl
@[simp] theorem setCsr_csr : (s.setCsr v).csr = v := rfl
@[simp] theorem setCsr_sps : (s.setCsr v).sps = s.sps := rfl
@[simp] theorem setCsr_pps : (s.setCsr v).pps = s.pps := rfl
@[simp] theorem setCsr_fs : (s.setCsr v).fs = s.fs := rfl
@[simp] theorem setCsr_maxLongTermFrameIdx : (s.setCsr v).maxLongTermFrameIdx = s.maxLongTermFrameIdx := rfl
@[simp] theorem setCsr_savedPools : (s.setCsr v).savedPools = s.savedPools := rfl
@[simp] theorem setCsr_au : (s.setCsr v).au = s.au := rfl
@[simp] theorem setCsr_sl : (s.setCsr v).sl = s.sl := rfl
@[simp] theorem setCsr_ds : (s.setCsr v).ds = s.ds := rfl
@[simp] theorem setCsr_mb : (s.setCsr v).mb = s.mb := rfl
@[simp] theorem setCsr_br : (s.setCsr v).br = s.br := rfl
@[simp] theorem setCsr_dbk : (s.setCsr v).dbk = s.dbk := rfl
@[simp] theorem setCsr_cabac : (s.setCsr v).cabac = s.cabac := rfl
@[simp] theorem setCsr_mem : (s.setCsr v).mem = s.mem := rfl
@[simp] theorem setCsr_host : (s.setCsr v).host = s.host := rfl
@[simp] theorem setCsr_bus : (s.setCsr v).bus = s.bus := rfl
@[simp] theorem setCsr_tasks : (s.setCsr v).tasks = s.tasks := rfl
@[simp] theorem setCsr_wk : (s.setCsr v).wk = s.wk := rfl
@[simp] theorem setCsr_freeCtr : (s.setCsr v).freeCtr = s.freeCtr := rfl
end setCsr

section setSps
variable (s : State) (v : List (Option Sps))
@[simp] theorem setSps_params : (s.setSps v).params = s.params := rfl
@[simp] theorem setSps_csr : (s.setSps v).csr = s.csr := rfl
@[simp] theorem setSps_sps : (s.setSps v).sps = v := rfl
@[simp] theorem setSps_pps : (s.setSps v).pps = s.pps := rfl
@[simp] theorem setSps_fs : (s.setSps v).fs = s.fs := rfl
@[simp] theorem setSps_maxLongTermFrameIdx : (s.setSps v).maxLongTermFrameIdx = s.maxLongTermFrameIdx := rfl
@[simp] theorem setSps_savedPools : (s.setSps v).savedPools = s.savedPools := rfl
@[simp] theorem setSps_au : (s.setSps v).au = s.au := rfl
@[simp] theorem setSps_sl : (s.setSps v).sl = s.sl := rfl
@[simp] theorem setSps_ds : (s.setSps v).ds = s.ds := rfl
@[simp] theorem setSps_mb : (s.setSps v).mb = s.mb := rfl
@[simp] theorem setSps_br : (s.setSps v).br = s.br := rfl
@[simp] theorem setSps_dbk : (s.setSps v).dbk = s.dbk := rfl
@[simp] theorem setSps_cabac : (s.setSps v).cabac = s.cabac := rfl
@[simp] theorem setSps_mem : (s.setSps v).mem = s.mem := rfl
@[simp] theorem setSps_host : (s.setSps v).host = s.host := rfl
@[simp] theorem setSps_bus : (s.setSps v).bus = s.bus := rfl
@[simp] theorem setSps_tasks : (s.setSps v).tasks = s.tasks := rfl
@[simp] theorem setSps_wk : (s.setSps v).wk = s.wk := rfl
@[simp] theorem setSps_freeCtr : (s.setSps v).freeCtr = s.freeCtr := rfl
end setSps

section setPps
variable (s : State) (v : List (Option Pps))
@[simp] theorem setPps_params : (s.setPps v).params = s.params := rfl
@[simp] theorem setPps_csr : (s.setPps v).csr = s.csr := rfl
@[simp] theorem setPps_sps : (s.setPps v).sps = s.sps := rfl
@[simp] theorem setPps_pps : (s.setPps v).pps = v := rfl
@[simp] theorem setPps_fs : (s.setPps v).fs = s.fs := rfl
@[simp] theorem setPps_maxLongTermFrameIdx : (s.setPps v).maxLongTermFrameIdx = s.maxLongTermFrameIdx := rfl
@[simp] theorem setPps_savedPools : (s.setPps v).savedPools = s.savedPools := rfl
@[simp] theorem setPps_au : (s.setPps v).au = s.au := rfl
@[simp] theorem setPps_sl : (s.setPps v).sl = s.sl := rfl
@[simp] theorem setPps_ds : (s.setPps v).ds = s.ds := rfl
@[simp] theorem setPps_mb : (s.setPps v).mb = s.mb := rfl
@[simp] theorem setPps_br : (s.setPps v).br = s.br := rfl
@[simp] theorem setPps_dbk : (s.setPps v).dbk = s.dbk := rfl
@[simp] theorem setPps_cabac : (s.setPps v).cabac = s.cabac := rfl
@[simp] theorem setPps_mem : (s.setPps v).mem = s.mem := rfl
@[simp] theorem setPps_host : (s.setPps v).host = s.host := rfl
@[simp] theorem setPps_bus : (s.setPps v).bus = s.bus := rfl
@[simp] theorem setPps_tasks : (s.setPps v).tasks = s.tasks := rfl
@[simp] theorem setPps_wk : (s.setPps v).wk = s.wk := rfl
@[simp] theorem setPps_freeCtr : (s.setPps v).freeCtr = s.freeCtr := rfl
end setPps

section setFs
variable (s : State) (v : List Frame)
@[simp] theorem setFs_params : (s.setFs v).params = s.params := rfl
@[simp] theorem setFs_csr : (s.setFs v).csr = s.csr := rfl
@[simp] theorem setFs_sps : (s.setFs v).sps = s.sps := rfl
@[simp] theorem setFs_pps : (s.setFs v).pps = s.pps := rfl
@[simp] theorem setFs_fs : (s.setFs v).fs = v := rfl
@[simp] theorem setFs_maxLongTermFrameIdx : (s.setFs v).maxLongTermFrameIdx = s.maxLongTermFrameIdx := rfl
@[simp] theorem setFs_savedPools : (s.setFs v).savedPools = s.savedPools := rfl
@[simp] theorem setFs_au : (s.setFs v).au = s.au := rfl
@[simp] theorem setFs_sl : (s.setFs v).sl = s.sl := rfl
@[simp] theorem setFs_ds : (s.setFs v).ds = s.ds := rfl
@[simp] theorem setFs_mb : (s.setFs v).mb = s.mb := rfl
@[simp] theorem setFs_br : (s.setFs v).br = s.br := rfl
@[simp] theorem setFs_dbk : (s.setFs v).dbk = s.dbk := rfl
@[simp] theorem setFs_cabac : (s.setFs v).cabac = s.cabac := rfl
@[simp] theorem setFs_mem : (s.setFs v).mem = s.mem := rfl
@[simp] theorem setFs_host : (s.setFs v).host = s.host := rfl
@[simp] theorem setFs_bus : (s.setFs v).bus = s.bus := rfl
@[simp] theorem setFs_tasks : (s.setFs v).tasks = s.tasks := rfl
@[simp] theorem setFs_wk : (s.setFs v).wk = s.wk := rfl
@[simp] theorem setFs_freeCtr : (s.setFs v).freeCtr = s.freeCtr := rfl
end setFs

section setMaxLong
variable (s : State) (v : Option Nat)
@[simp] theorem setMaxLong_params : (s.setMaxLong v).params = s.params := rfl
@[simp] theorem setMaxLong_csr : (s.setMaxLong v).csr = s.csr := rfl
@[simp] theorem setMaxLong_sps : (s.setMaxLong v).sps = s.sps := rfl
@[simp] theorem setMaxLong_pps : (s.setMaxLong v).pps = s.pps := rfl
@[simp] theorem setMaxLong_fs : (s.setMaxLong v).fs = s.fs := rfl
@[simp] theorem setMaxLong_maxLongTermFrameIdx : (s.setMaxLong v).maxLongTermFrameIdx = v := rfl
@[simp] theorem setMaxLong_savedPools : (s.setMaxLong v).savedPools = s.savedPools := rfl
@[simp] theorem setMaxLong_au : (s.setMaxLong v).au = s.au := rfl
@[simp] theorem setMaxLong_sl : (s.setMaxLong v).sl = s.sl := rfl
@[simp] theorem setMaxLong_ds : (s.setMaxLong v).ds = s.ds := rfl
@[simp] theorem setMaxLong_mb : (s.setMaxLong v).mb = s.mb := rfl
@[simp] theorem setMaxLong_br : (s.setMaxLong v).br = s.br := rfl
@[simp] theorem setMaxLong_dbk : (s.setMaxLong v).dbk = s.dbk := rfl
@[simp] theorem setMaxLong_cabac : (s.setMaxLong v).cabac = s.cabac := rfl
@[simp] theorem setMaxLong_mem : (s.setMaxLong v).mem = s.mem := rfl
@[simp] theorem setMaxLong_host : (s.setMaxLong v).host = s.host := rfl
@[simp] theorem setMaxLong_bus : (s.setMaxLong v).bus = s.bus := rfl
@[simp] theorem setMaxLong_tasks : (s.setMaxLong v).tasks = s.tasks := rfl
@[simp] theorem setMaxLong_wk : (s.setMaxLong v).wk = s.wk := rfl
@[simp] theorem setMaxLong_freeCtr : (s.setMaxLong v).freeCtr = s.freeCtr := rfl
end setMaxLong

section setSavedPools
variable (s : State) (v : Option Pools)
@[simp] theorem setSavedPools_params : (s.setSavedPools v).params = s.params := rfl
@[simp] theorem setSavedPools_csr : (s.setSavedPools v).csr = s.csr := rfl
@[simp] theorem setSavedPools_sps : (s.setSavedPools v).sps = s.sps := rfl
@[simp] theorem setSavedPools_pps : (s.setSavedPools v).pps = s.pps := rfl
@[simp] theorem setSavedPools_fs : (s.setSavedPools v).fs = s.fs := rfl
@[simp] theorem setSavedPools_maxLongTermFrameIdx : (s.setSavedPools v).maxLongTermFrameIdx = s.maxLongTermFrameIdx := rfl
@[simp] theorem setSavedPools_savedPools : (s.setSavedPools v).savedPools = v := rfl
@[simp] theorem setSavedPools_au : (s.setSavedPools v).au = s.au := rfl
@[simp] theorem setSavedPools_sl : (s.setSavedPools v).sl = s.sl := rfl
@[simp] theorem setSavedPools_ds : (s.setSavedPools v).ds = s.ds := rfl
@[simp] theorem setSavedPools_mb : (s.setSavedPools v).mb = s.mb := rfl
@[simp] theorem setSavedPools_br : (s.setSavedPools v).br = s.br := rfl
@[simp] theorem setSavedPools_dbk : (s.setSavedPools v).dbk = s.dbk := rfl
@[simp] theorem setSavedPools_cabac : (s.setSavedPools v).cabac = s.cabac := rfl
@[simp] theorem setSavedPools_mem : (s.setSavedPools v).mem = s.mem := rfl
@[simp] theorem setSavedPools_host : (s.setSavedPools v).host = s.host := rfl
@[simp] theorem setSavedPools_bus : (s.setSavedPools v).bus = s.bus := rfl
@[simp] theorem setSavedPools_tasks : (s.setSavedPools v).tasks = s.tasks := rfl
@[simp] theorem setSavedPools_wk : (s.setSavedPools v).wk = s.wk := rfl
@[simp] theorem setSavedPools_freeCtr : (s.setSavedPools v).freeCtr = s.freeCtr := rfl
end setSavedPools

section setAu
variable (s : State) (v : Au)
@[simp] theorem setAu_params : (s.setAu v).params = s.params := rfl
@[simp] theorem setAu_csr : (s.setAu v).csr = s.csr := rfl
@[simp] theorem setAu_sps : (s.setAu v).sps = s.sps := rfl
@[simp] theorem setAu_pps : (s.setAu v).pps = s.pps := rfl
@[simp] theorem setAu_fs : (s.setAu v).fs = s.fs := rfl
@[simp] theorem setAu_maxLongTermFrameIdx : (s.setAu v).maxLongTermFrameIdx = s.maxLongTermFrameIdx := rfl
@[simp] theorem setAu_savedPools : (s.setAu v).savedPools = s.savedPools := rfl
@[simp] theorem setAu_au : (s.setAu v).au = v := rfl
@[simp] theorem setAu_sl : (s.setAu v).sl = s.sl := rfl
@[simp] theorem setAu_ds : (s.setAu v).ds = s.ds := rfl
@[simp] theorem setAu_mb : (s.setAu v).mb = s.mb := rfl
@[simp] theorem setAu_br : (s.setAu v).br = s.br := rfl
@[simp] theorem setAu_dbk : (s.setAu v).dbk = s.dbk := rfl
@[simp] theorem setAu_cabac : (s.setAu v).cabac = s.cabac := rfl
@[simp] theorem setAu_mem : (s.setAu v).mem = s.mem := rfl
@[simp] theorem setAu_host : (s.setAu v).host = s.host := rfl
@[simp] theorem setAu_bus : (s.setAu v).bus = s.bus := rfl
@[simp] theorem setAu_tasks : (s.setAu v).tasks = s.tasks := rfl
@[simp] theorem setAu_wk : (s.setAu v).wk = s.wk := rfl
@[simp] theorem setAu_freeCtr : (s.setAu v).freeCtr = s.freeCtr := rfl
end setAu

section setSl
variable (s : State) (v : Option SliceHdr)
@[simp] theorem setSl_params : (s.setSl v).params = s.params := rfl
@[simp] theorem setSl_csr : (s.setSl v).csr = s.csr := rfl
@[simp] theorem setSl_sps : (s.setSl v).sps = s.sps := rfl
@[simp] theorem setSl_pps : (s.setSl v).pps = s.pps := rfl
@[simp] theorem setSl_fs : (s.setSl v).fs = s.fs := rfl
@[simp] theorem setSl_maxLongTermFrameIdx : (s.setSl v).maxLongTermFrameIdx = s.maxLongTermFrameIdx := rfl
@[simp] theorem setSl_savedPools : (s.setSl v).savedPools = s.savedPools := rfl
@[simp] theorem setSl_au : (s.setSl v).au = s.au := rfl
@[simp] theorem setSl_sl : (s.setSl v).sl = v := rfl
@[simp] theorem setSl_ds : (s.setSl v).ds = s.ds := rfl
@[simp] theorem setSl_mb : (s.setSl v).mb = s.mb := rfl
@[simp] theorem setSl_br : (s.setSl v).br = s.br := rfl
@[simp] theorem setSl_dbk : (s.setSl v).dbk = s.dbk := rfl
@[simp] theorem setSl_cabac : (s.setSl v).cabac = s.cabac := rfl
@[simp] theorem setSl_mem : (s.setSl v).mem = s.mem := rfl
@[simp] theorem setSl_host : (s.setSl v).host = s.host := rfl
@[simp] theorem setSl_bus : (s.setSl v).bus = s.bus := rfl
@[simp] theorem setSl_tasks : (s.setSl v).tasks = s.tasks := rfl
@[simp] theorem setSl_wk : (s.setSl v).wk = s.wk := rfl
@[simp] theorem setSl_freeCtr : (s.setSl v).freeCtr = s.freeCtr := rfl
end setSl

section setDs
variable (s : State) (v : Ds)
@[simp] theorem setDs_params : (s.setDs v).params = s.params := rfl
@[simp] theorem setDs_csr : (s.setDs v).csr = s.csr := rfl
@[simp] theorem setDs_sps : (s.setDs v).sps = s.sps := rfl
@[simp] theorem setDs_pps : (s.setDs v).pps = s.pps := rfl
@[simp] theorem setDs_fs : (s.setDs v).fs = s.fs := rfl
@[simp] theorem setDs_maxLongTermFrameIdx : (s.setDs v).maxLongTermFrameIdx = s.maxLongTermFrameIdx := rfl
@[simp] theorem setDs_savedPools : (s.setDs v).savedPools = s.savedPools := rfl
@[simp] theorem setDs_au : (s.setDs v).au = s.au := rfl
@[simp] theorem setDs_sl : (s.setDs v).sl = s.sl := rfl
@[simp] theorem setDs_ds : (s.setDs v).ds = v := rfl
@[simp] theorem setDs_mb : (s.setDs v).mb = s.mb := rfl
@[simp] theorem setDs_br : (s.setDs v).br = s.br := rfl
@[simp] theorem setDs_dbk : (s.setDs v).dbk = s.dbk := rfl
@[simp] theorem setDs_cabac : (s.setDs v).cabac = s.cabac := rfl
@[simp] theorem setDs_mem : (s.setDs v).mem = s.mem := rfl
@[simp] theorem setDs_host : (s.setDs v).host = s.host := rfl
@[simp] theorem setDs_bus : (s.setDs v).bus = s.bus := rfl
@[simp] theorem setDs_tasks : (s.setDs v).tasks = s.tasks := rfl
@[simp] theorem setDs_wk : (s.setDs v).wk = s.wk := rfl
@[simp] theorem setDs_freeCtr : (s.setDs v).freeCtr = s.freeCtr := rfl
end setDs

section setMb
variable (s : State) (v : MbRec)
@[simp] theorem setMb_params : (s.setMb v).params = s.params := rfl
@[simp] theorem setMb_csr : (s.setMb v).csr = s.csr := rfl
@[simp] theorem setMb_sps : (s.setMb v).sps = s.sps := rfl
@[simp] theorem setMb_pps : (s.setMb v).pps = s.pps := rfl
@[simp] theorem setMb_fs : (s.setMb v).fs = s.fs := rfl
@[simp] theorem setMb_maxLongTermFrameIdx : (s.setMb v).maxLongTermFrameIdx = s.maxLongTermFrameIdx := rfl
@[simp] theorem setMb_savedPools : (s.setMb v).savedPools = s.savedPools := rfl
@[simp] theorem setMb_au : (s.setMb v).au = s.au := rfl
@[simp] theorem setMb_sl : (s.setMb v).sl = s.sl := rfl
@[simp] theorem setMb_ds : (s.setMb v).ds = s.ds := rfl
@[simp] theorem setMb_mb : (s.setMb v).mb = v := rfl
@[simp] theorem setMb_br : (s.setMb v).br = s.br := rfl
@[simp] theorem setMb_dbk : (s.setMb v).dbk = s.dbk := rfl
@[simp] theorem setMb_cabac : (s.setMb v).cabac = s.cabac := rfl
@[simp] theorem setMb_mem : (s.setMb v).mem = s.mem := rfl
@[simp] theorem setMb_host : (s.setMb v).host = s.host := rfl
@[simp] theorem setMb_bus : (s.setMb v).bus = s.bus := rfl
@[simp] theorem setMb_tasks : (s.setMb v).tasks = s.tasks := rfl
@[simp] theorem setMb_wk : (s.setMb v).wk = s.wk := rfl
@[simp] theorem setMb_freeCtr : (s.setMb v).freeCtr = s.freeCtr := rfl
end setMb

section setBr
variable (s : State) (v : Br)
@[simp] theorem setBr_params : (s.setBr v).params = s.params := rfl
@[simp] theorem setBr_csr : (s.setBr v).csr = s.csr := rfl
@[simp] theorem setBr_sps : (s.setBr v).sps = s.sps := rfl
@[simp] theorem setBr_pps : (s.setBr v).pps = s.pps := rfl
@[simp] theorem setBr_fs : (s.setBr v).fs = s.fs := rfl
@[simp] theorem setBr_maxLongTermFrameIdx : (s.setBr v).maxLongTermFrameIdx = s.maxLongTermFrameIdx := rfl
@[simp] theorem setBr_savedPools : (s.setBr v).savedPools = s.savedPools := rfl
@[simp] theorem setBr_au : (s.setBr v).au = s.au := rfl
@[simp] theorem setBr_sl : (s.setBr v).sl = s.sl := rfl
@[simp] theorem setBr_ds : (s.setBr v).ds = s.ds := rfl
@[simp] theorem setBr_mb : (s.setBr v).mb = s.mb := rfl
@[simp] theorem setBr_br : (s.setBr v).br = v := rfl
@[simp] theorem setBr_dbk : (s.setBr v).dbk = s.dbk := rfl
@[simp] theorem setBr_cabac : (s.setBr v).cabac = s.cabac := rfl
@[simp] theorem setBr_mem : (s.setBr v).mem = s.mem := rfl
@[simp] theorem setBr_host : (s.setBr v).host = s.host := rfl
@[simp] theorem setBr_bus : (s.setBr v).bus = s.bus := rfl
@[simp] theorem setBr_tasks : (s.setBr v).tasks = s.tasks := rfl
@[simp] theorem setBr_wk : (s.setBr v).wk = s.wk := rfl
@[simp] theorem setBr_freeCtr : (s.setBr v).freeCtr = s.freeCtr := rfl
end setBr

section setDbk
variable (s : State) (v : List Dbk)
@[simp] theorem setDbk_params : (s.setDbk v).params = s.params := rfl
@[simp] theorem setDbk_csr : (s.setDbk v).csr = s.csr := rfl
@[simp] theorem setDbk_sps : (s.setDbk v).sps = s.sps := rfl
@[simp] theorem setDbk_pps : (s.setDbk v).pps = s.pps := rfl
@[simp] theorem setDbk_fs : (s.setDbk v).fs = s.fs := rfl
@[simp] theorem setDbk_maxLongTermFrameIdx : (s.setDbk v).maxLongTermFrameIdx = s.maxLongTermFrameIdx := rfl
@[simp] theorem setDbk_savedPools : (s.setDbk v).savedPools = s.savedPools := rfl
@[simp] theorem setDbk_au : (s.setDbk v).au = s.au := rfl
@[simp] theorem setDbk_sl : (s.setDbk v).sl = s.sl := rfl
@[simp] theorem setDbk_ds : (s.setDbk v).ds = s.ds := rfl
@[simp] theorem setDbk_mb : (s.setDbk v).mb = s.mb := rfl
@[simp] theorem setDbk_br : (s.setDbk v).br = s.br := rfl
@[simp] theorem setDbk_dbk : (s.setDbk v).dbk = v := rfl
@[simp] theorem setDbk_cabac : (s.setDbk v).cabac = s.cabac := rfl
@[simp] theorem setDbk_mem : (s.setDbk v).mem = s.mem := rfl
@[simp] theorem setDbk_host : (s.setDbk v).host = s.host := rfl
@[simp] theorem setDbk_bus : (s.setDbk v).bus = s.bus := rfl
@[simp] theorem setDbk_tasks : (s.setDbk v).tasks = s.tasks := rfl
@[simp] theorem setDbk_wk : (s.setDbk v).wk = s.wk := rfl
@[simp] theorem setDbk_freeCtr : (s.setDbk v).freeCtr = s.freeCtr := rfl
end setDbk

section setCabac
variable (s : State) (v : Cabac)
@[simp] theorem setCabac_params : (s.setCabac v).params = s.params := rfl
@[simp] theorem setCabac_csr : (s.setCabac v).csr = s.csr := rfl
@[simp] theorem setCabac_sps : (s.setCabac v).sps = s.sps := rfl
@[simp] theorem setCabac_pps : (s.setCabac v).pps = s.pps := rfl
@[simp] theorem setCabac_fs : (s.setCabac v).fs = s.fs := rfl
@[simp] theorem setCabac_maxLongTermFrameIdx : (s.setCabac v).maxLongTermFrameIdx = s.maxLongTermFrameIdx := rfl
@[simp] theorem setCabac_savedPools : (s.setCabac v).savedPools = s.savedPools := rfl
@[simp] theorem setCabac_au : (s.setCabac v).au = s.au := rfl
@[simp] theorem setCabac_sl : (s.setCabac v).sl = s.sl := rfl
@[simp] theorem setCabac_ds : (s.setCabac v).ds = s.ds := rfl
@[simp] theorem setCabac_mb : (s.setCabac v).mb = s.mb := rfl
@[simp] theorem setCabac_br : (s.setCabac v).br = s.br := rfl
@[simp] theorem setCabac_dbk : (s.setCabac v).dbk = s.dbk := rfl
@[simp] theorem setCabac_cabac : (s.setCabac v).cabac = v := rfl
@[simp] theorem setCabac_mem : (s.setCabac v).mem = s.mem := rfl
@[simp] theorem setCabac_host : (s.setCabac v).host = s.host := rfl
@[simp] theorem setCabac_bus : (s.setCabac v).bus = s.bus := rfl
@[simp] theorem setCabac_tasks : (s.setCabac v).tasks = s.tasks := rfl
@[simp] theorem setCabac_wk : (s.setCabac v).wk = s.wk := rfl
@[simp] theorem setCabac_freeCtr : (s.setCabac v).freeCtr = s.freeCtr := rfl
end setCabac

section setMem
variable (s : State) (v : List Host.Cell)
@[simp] theorem setMem_params : (s.setMem v).params = s.params := rfl
@[simp] theorem setMem_csr : (s.setMem v).csr = s.csr := rfl
@[simp] theorem setMem_sps : (s.setMem v).sps = s.sps := rfl
@[simp] theorem setMem_pps : (s.setMem v).pps = s.pps := rfl
@[simp] theorem setMem_fs : (s.setMem v).fs = s.fs := rfl
@[simp] theorem setMem_maxLongTermFrameIdx : (s.setMem v).maxLongTermFrameIdx = s.maxLongTermFrameIdx := rfl
@[simp] theorem setMem_savedPools : (s.setMem v).savedPools = s.savedPools := rfl
@[simp] theorem setMem_au : (s.setMem v).au = s.au := rfl
@[simp] theorem setMem_sl : (s.setMem v).sl = s.sl := rfl
@[simp] theorem setMem_ds : (s.setMem v).ds = s.ds := rfl
@[simp] theorem setMem_mb : (s.setMem v).mb = s.mb := rfl
@[simp] theorem setMem_br : (s.setMem v).br = s.br := rfl
@[simp] theorem setMem_dbk : (s.setMem v).dbk = s.dbk := rfl
@[simp] theorem setMem_cabac : (s.setMem v).cabac = s.cabac := rfl
@[simp] theorem setMem_mem : (s.setMem v).mem = v := rfl
@[simp] theorem setMem_host : (s.setMem v).host = s.host := rfl
@[simp] theorem setMem_bus : (s.setMem v).bus = s.bus := rfl
@[simp] theorem setMem_tasks : (s.setMem v).tasks = s.tasks := rfl
@[simp] theorem setMem_wk : (s.setMem v).wk = s.wk := rfl
@[simp] theorem setMem_freeCtr : (s.setMem v).freeCtr = s.freeCtr := rfl
end setMem

section setHost
variable (s : State) (v : List (Nat × HostEvent))
@[simp] theorem setHost_params : (s.setHost v).params = s.params := rfl
@[simp] theorem setHost_csr : (s.setHost v).csr = s.csr := rfl
@[simp] theorem setHost_sps : (s.setHost v).sps = s.sps := rfl
@[simp] theorem setHost_pps : (s.setHost v).pps = s.pps := rfl
@[simp] theorem setHost_fs : (s.setHost v).fs = s.fs := rfl
@[simp] theorem setHost_maxLongTermFrameIdx : (s.setHost v).maxLongTermFrameIdx = s.maxLongTermFrameIdx := rfl
@[simp] theorem setHost_savedPools : (s.setHost v).savedPools = s.savedPools := rfl
@[simp] theorem setHost_au : (s.setHost v).au = s.au := rfl
@[simp] theorem setHost_sl : (s.setHost v).sl = s.sl := rfl
@[simp] theorem setHost_ds : (s.setHost v).ds = s.ds := rfl
@[simp] theorem setHost_mb : (s.setHost v).mb = s.mb := rfl
@[simp] theorem setHost_br : (s.setHost v).br = s.br := rfl
@[simp] theorem setHost_dbk : (s.setHost v).dbk = s.dbk := rfl
@[simp] theorem setHost_cabac : (s.setHost v).cabac = s.cabac := rfl
@[simp] theorem setHost_mem : (s.setHost v).mem = s.mem := rfl
@[simp] theorem setHost_host : (s.setHost v).host = v := rfl
@[simp] theorem setHost_bus : (s.setHost v).bus = s.bus := rfl
@[simp] theorem setHost_tasks : (s.setHost v).tasks = s.tasks := rfl
@[simp] theorem setHost_wk : (s.setHost v).wk = s.wk := rfl
@[simp] theorem setHost_freeCtr : (s.setHost v).freeCtr = s.freeCtr := rfl
end setHost

section setBus
variable (s : State) (v : Bus)
@[simp] theorem setBus_params : (s.setBus v).params = s.params := rfl
@[simp] theorem setBus_csr : (s.setBus v).csr = s.csr := rfl
@[simp] theorem setBus_sps : (s.setBus v).sps = s.sps := rfl
@[simp] theorem setBus_pps : (s.setBus v).pps = s.pps := rfl
@[simp] theorem setBus_fs : (s.setBus v).fs = s.fs := rfl
@[simp] theorem setBus_maxLongTermFrameIdx : (s.setBus v).maxLongTermFrameIdx = s.maxLongTermFrameIdx := rfl
@[simp] theorem setBus_savedPools : (s.setBus v).savedPools = s.savedPools := rfl
@[simp] theorem setBus_au : (s.setBus v).au = s.au := rfl
@[simp] theorem setBus_sl : (s.setBus v).sl = s.sl := rfl
@[simp] theorem setBus_ds : (s.setBus v).ds = s.ds := rfl
@[simp] theorem setBus_mb : (s.setBus v).mb = s.mb := rfl
@[simp] theorem setBus_br : (s.setBus v).br = s.br := rfl
@[simp] theorem setBus_dbk : (s.setBus v).dbk = s.dbk := rfl
@[simp] theorem setBus_cabac : (s.setBus v).cabac = s.cabac := rfl
@[simp] theorem setBus_mem : (s.setBus v).mem = s.mem := rfl
@[simp] theorem setBus_host : (s.setBus v).host = s.host := rfl
@[simp] theorem setBus_bus : (s.setBus v).bus = v := rfl
@[simp] theorem setBus_tasks : (s.setBus v).tasks = s.tasks := rfl
@[simp] theorem setBus_wk : (s.setBus v).wk = s.wk := rfl
@[simp] theorem setBus_freeCtr : (s.setBus v).freeCtr = s.freeCtr := rfl
end setBus

section setTasks
variable (s : State) (v : List Task)
@[simp] theorem setTasks_params : (s.setTasks v).params = s.params := rfl
@[simp] theorem setTasks_csr : (s.setTasks v).csr = s.csr := rfl
@[simp] theorem setTasks_sps : (s.setTasks v).sps = s.sps := rfl
@[simp] theorem setTasks_pps : (s.setTasks v).pps = s.pps := rfl
@[simp] theorem setTasks_fs : (s.setTasks v).fs = s.fs := rfl
@[simp] theorem setTasks_maxLongTermFrameIdx : (s.setTasks v).maxLongTermFrameIdx = s.maxLongTermFrameIdx := rfl
@[simp] theorem setTasks_savedPools : (s.setTasks v).savedPools = s.savedPools := rfl
@[simp] theorem setTasks_au : (s.setTasks v).au = s.au := rfl
@[simp] theorem setTasks_sl : (s.setTasks v).sl = s.sl := rfl
@[simp] theorem setTasks_ds : (s.setTasks v).ds = s.ds := rfl
@[simp] theorem setTasks_mb : (s.setTasks v).mb = s.mb := rfl
@[simp] theorem setTasks_br : (s.setTasks v).br = s.br := rfl
@[simp] theorem setTasks_dbk : (s.setTasks v).dbk = s.dbk := rfl
@[simp] theorem setTasks_cabac : (s.setTasks v).cabac = s.cabac := rfl
@[simp] theorem setTasks_mem : (s.setTasks v).mem = s.mem := rfl
@[simp] theorem setTasks_host : (s.setTasks v).host = s.host := rfl
@[simp] theorem setTasks_bus : (s.setTasks v).bus = s.bus := rfl
@[simp] theorem setTasks_tasks : (s.setTasks v).tasks = v := rfl
@[simp] theorem setTasks_wk : (s.setTasks v).wk = s.wk := rfl
@[simp] theorem setTasks_freeCtr : (s.setTasks v).freeCtr = s.freeCtr := rfl
end setTasks

section setWk
variable (s : State) (v : Wk)
@[simp] theorem setWk_params : (s.setWk v).params = s.params := rfl
@[simp] theorem setWk_csr : (s.setWk v).csr = s.csr := rfl
@[simp] theorem setWk_sps : (s.setWk v).sps = s.sps := rfl
@[simp] theorem setWk_pps : (s.setWk v).pps = s.pps := rfl
@[simp] theorem setWk_fs : (s.setWk v).fs = s.fs := rfl
@[simp] theorem setWk_maxLongTermFrameIdx : (s.setWk v).maxLongTermFrameIdx = s.maxLongTermFrameIdx := rfl
@[simp] theorem setWk_savedPools : (s.setWk v).savedPools = s.savedPools := rfl
@[simp] theorem setWk_au : (s.setWk v).au = s.au := rfl
@[simp] theorem setWk_sl : (s.setWk v).sl = s.sl := rfl
@[simp] theorem setWk_ds : (s.setWk v).ds = s.ds := rfl
@[simp] theorem setWk_mb : (s.setWk v).mb = s.mb := rfl
@[simp] theorem setWk_br : (s.setWk v).br = s.br := rfl
@[simp] theorem setWk_dbk : (s.setWk v).dbk = s.dbk := rfl
@[simp] theorem setWk_cabac : (s.setWk v).cabac = s.cabac := rfl
@[simp] theorem setWk_mem : (s.setWk v).mem = s.mem := rfl
@[simp] theorem setWk_host : (s.setWk v).host = s.host := rfl
@[simp] theorem setWk_bus : (s.setWk v).bus = s.bus := rfl
@[simp] theorem setWk_tasks : (s.setWk v).tasks = s.tasks := rfl
@[simp] theorem setWk_wk : (s.setWk v).wk = v := rfl
@[simp] theorem setWk_freeCtr : (s.setWk v).freeCtr = s.freeCtr := rfl
end setWk

section drawn
variable (s : State) (n : Nat)
@[simp] theorem drawn_params : (s.drawn n).params = s.params := rfl
@[simp] theorem drawn_csr : (s.drawn n).csr = s.csr := rfl
@[simp] theorem drawn_sps : (s.drawn n).sps = s.sps := rfl
@[simp] theorem drawn_pps : (s.drawn n).pps = s.pps := rfl
@[simp] theorem drawn_fs : (s.drawn n).fs = s.fs := rfl
@[simp] theorem drawn_maxLongTermFrameIdx : (s.drawn n).maxLongTermFrameIdx = s.maxLongTermFrameIdx := rfl
@[simp] theorem drawn_savedPools : (s.drawn n).savedPools = s.savedPools := rfl
@[simp] theorem drawn_au : (s.drawn n).au = s.au := rfl
@[simp] theorem drawn_sl : (s.drawn n).sl = s.sl := rfl
@[simp] theorem drawn_ds : (s.drawn n).ds = s.ds := rfl
@[simp] theorem drawn_mb : (s.drawn n).mb = s.mb := rfl
@[simp] theorem drawn_br : (s.drawn n).br = s.br := rfl
@[simp] theorem drawn_dbk : (s.drawn n).dbk = s.dbk := rfl
@[simp] theorem drawn_cabac : (s.drawn n).cabac = s.cabac := rfl
@[simp] theorem drawn_mem : (s.drawn n).mem = s.mem := rfl
@[simp] theorem drawn_host : (s.drawn n).host = s.host := rfl
@[simp] theorem drawn_bus : (s.drawn n).bus = s.bus := rfl
@[simp] theorem drawn_tasks : (s.drawn n).tasks = s.tasks := rfl
@[simp] theorem drawn_wk : (s.drawn n).wk = s.wk := rfl
@[simp] theorem drawn_freeCtr : (s.drawn n).freeCtr = s.freeCtr + n := rfl
end drawn

section push
variable (s : State) (ts : List Task)
@[simp] theorem push_params : (s.push ts).params = s.params := rfl
@[simp] theorem push_csr : (s.push ts).csr = s.csr := rfl
@[simp] theorem push_sps : (s.push ts).sps = s.sps := rfl
@[simp] theorem push_pps : (s.push ts).pps = s.pps := rfl
@[simp] theorem push_fs : (s.push ts).fs = s.fs := rfl
@[simp] theorem push_maxLongTermFrameIdx : (s.push ts).maxLongTermFrameIdx = s.maxLongTermFrameIdx := rfl
@[simp] theorem push_savedPools : (s.push ts).savedPools = s.savedPools := rfl
@[simp] theorem push_au : (s.push ts).au = s.au := rfl
@[simp] theorem push_sl : (s.push ts).sl = s.sl := rfl
@[simp] theorem push_ds : (s.push ts).ds = s.ds := rfl
@[simp] theorem push_mb : (s.push ts).mb = s.mb := rfl
@[simp] theorem push_br : (s.push ts).br = s.br := rfl
@[simp] theorem push_dbk : (s.push ts).dbk = s.dbk := rfl
@[simp] theorem push_cabac : (s.push ts).cabac = s.cabac := rfl
@[simp] theorem push_mem : (s.push ts).mem = s.mem := rfl
@[simp] theorem push_host : (s.push ts).host = s.host := rfl
@[simp] theorem push_bus : (s.push ts).bus = s.bus := rfl
@[simp] theorem push_tasks : (s.push ts).tasks = ts ++ s.tasks := rfl
@[simp] theorem push_wk : (s.push ts).wk = s.wk := rfl
@[simp] theorem push_freeCtr : (s.push ts).freeCtr = s.freeCtr := rfl
end push

section updFrame
variable (s : State) (h : Nat) (f : Frame → Frame)
@[simp] theorem updFrame_params : (s.updFrame h f).params = s.params := rfl
@[simp] theorem updFrame_csr : (s.updFrame h f).csr = s.csr := rfl
@[simp] theorem updFrame_sps : (s.updFrame h f).sps = s.sps := rfl
@[simp] theorem updFrame_pps : (s.updFrame h f).pps = s.pps := rfl
@[simp] theorem updFrame_fs : (s.updFrame h f).fs = s.fs.modify h f := rfl
@[simp] theorem updFrame_maxLongTermFrameIdx : (s.updFrame h f).maxLongTermFrameIdx = s.maxLongTermFrameIdx := rfl
@[simp] theorem updFrame_savedPools : (s.updFrame h f).savedPools = s.savedPools := rfl
@[simp] theorem updFrame_au : (s.updFrame h f).au = s.au := rfl
@[simp] theorem updFrame_sl : (s.updFrame h f).sl = s.sl := rfl
@[simp] theorem updFrame_ds : (s.updFrame h f).ds = s.ds := rfl
@[simp] theorem updFrame_mb : (s.updFrame h f).mb = s.mb := rfl
@[simp] theorem updFrame_br : (s.updFrame h f).br = s.br := rfl
@[simp] theorem updFrame_dbk : (s.updFrame h f).dbk = s.dbk := rfl
@[simp] theorem updFrame_cabac : (s.updFrame h f).cabac = s.cabac := rfl
@[simp] theorem updFrame_mem : (s.updFrame h f).mem = s.mem := rfl
@[simp] theorem updFrame_host : (s.updFrame h f).host = s.host := rfl
@[simp] theorem updFrame_bus : (s.updFrame h f).bus = s.bus := rfl
@[simp] theorem updFrame_tasks : (s.updFrame h f).tasks = s.tasks := rfl
@[simp] theorem updFrame_wk : (s.updFrame h f).wk = s.wk := rfl
@[simp] theorem updFrame_freeCtr : (s.updFrame h f).freeCtr = s.freeCtr := rfl
end updFrame

section updDbk
variable (s : State) (h : Nat) (f : Dbk → Dbk)
@[simp] theorem updDbk_params : (s.updDbk h f).params = s.params := rfl
@[simp] theorem updDbk_csr : (s.updDbk h f).csr = s.csr := rfl
@[simp] theorem updDbk_sps : (s.updDbk h f).sps = s.sps := rfl
@[simp] theorem updDbk_pps : (s.updDbk h f).pps = s.pps := rfl
@[simp] theorem updDbk_fs : (s.updDbk h f).fs = s.fs := rfl
@[simp] theorem updDbk_maxLongTermFrameIdx : (s.updDbk h f).maxLongTermFrameIdx = s.maxLongTermFrameIdx := rfl
@[simp] theorem updDbk_savedPools : (s.updDbk h f).savedPools = s.savedPools := rfl
@[simp] theorem updDbk_au : (s.updDbk h f).au = s.au := rfl
@[simp] theorem updDbk_sl : (s.updDbk h f).sl = s.sl := rfl
@[simp] theorem updDbk_ds : (s.updDbk h f).ds = s.ds := rfl
@[simp] theorem updDbk_mb : (s.updDbk h f).mb = s.mb := rfl
@[simp] theorem updDbk_br : (s.updDbk h f).br = s.br := rfl
@[simp] theorem updDbk_dbk : (s.updDbk h f).dbk = s.dbk.modify h f := rfl
@[simp] theorem updDbk_cabac : (s.updDbk h f).cabac = s.cabac := rfl
@[simp] theorem updDbk_mem : (s.updDbk h f).mem = s.mem := rfl
@[simp] theorem updDbk_host : (s.updDbk h f).host = s.host := rfl
@[simp] theorem updDbk_bus : (s.updDbk h f).bus = s.bus := rfl
@[simp] theorem updDbk_tasks : (s.updDbk h f).tasks = s.tasks := rfl
@[simp] theorem updDbk_wk : (s.updDbk h f).wk = s.wk := rfl
@[simp] theorem updDbk_freeCtr : (s.updDbk h f).freeCtr = s.freeCtr := rfl
end updDbk

section updSl
variable (s : State) (f : SliceHdr → SliceHdr)
@[simp] theorem updSl_params : (s.updSl f).params = s.params := rfl
@[simp] theorem updSl_csr : (s.updSl f).csr = s.csr := rfl
@[simp] theorem updSl_sps : (s.updSl f).sps = s.sps := rfl
@[simp] theorem updSl_pps : (s.updSl f).pps = s.pps := rfl
@[simp] theorem updSl_fs : (s.updSl f).fs = s.fs := rfl
@[simp] theorem updSl_maxLongTermFrameIdx : (s.updSl f).maxLongTermFrameIdx = s.maxLongTermFrameIdx := rfl
@[simp] theorem updSl_savedPools : (s.updSl f).savedPools = s.savedPools := rfl
@[simp] theorem updSl_au : (s.updSl f).au = s.au := rfl
@[simp] theorem updSl_sl : (s.updSl f).sl = s.sl.map f := rfl
@[simp] theorem updSl_ds : (s.updSl f).ds = s.ds := rfl
@[simp] theorem updSl_mb : (s.updSl f).mb = s.mb := rfl
@[simp] theorem updSl_br : (s.updSl f).br = s.br := rfl
@[simp] theorem updSl_dbk : (s.updSl f).dbk = s.dbk := rfl
@[simp] theorem updSl_cabac : (s.updSl f).cabac = s.cabac := rfl
@[simp] theorem updSl_mem : (s.updSl f).mem = s.mem := rfl
@[simp] theorem updSl_host : (s.updSl f).host = s.host := rfl
@[simp] theorem updSl_bus : (s.updSl f).bus = s.bus := rfl
@[simp] theorem updSl_tasks : (s.updSl f).tasks = s.tasks := rfl
@[simp] theorem updSl_wk : (s.updSl f).wk = s.wk := rfl
@[simp] theorem updSl_freeCtr : (s.updSl f).freeCtr = s.freeCtr := rfl
end updSl

section setFsm
variable (s : State) (f : Fsm)
@[simp] theorem setFsm_params : (s.setFsm f).params = s.params := rfl
@[simp] theorem setFsm_csr : (s.setFsm f).csr = { s.csr with fsm := f } := rfl
@[simp] theorem setFsm_sps : (s.setFsm f).sps = s.sps := rfl
@[simp] theorem setFsm_pps : (s.setFsm f).pps = s.pps := rfl
@[simp] theorem setFsm_fs : (s.setFsm f).fs = s.fs := rfl
@[simp] theorem setFsm_maxLongTermFrameIdx : (s.setFsm f).maxLongTermFrameIdx = s.maxLongTermFrameIdx := rfl
@[simp] theorem setFsm_savedPools : (s.setFsm f).savedPools = s.savedPools := rfl
@[simp] theorem setFsm_au : (s.setFsm f).au = s.au := rfl
@[simp] theorem setFsm_sl : (s.setFsm f).sl = s.sl := rfl
@[simp] theorem setFsm_ds : (s.setFsm f).ds = s.ds := rfl
@[simp] theorem setFsm_mb : (s.setFsm f).mb = s.mb := rfl
@[simp] theorem setFsm_br : (s.setFsm f).br = s.br := rfl
@[simp] theorem setFsm_dbk : (s.setFsm f).dbk = s.dbk := rfl
@[simp] theorem setFsm_cabac : (s.setFsm f).cabac = s.cabac := rfl
@[simp] theorem setFsm_mem : (s.setFsm f).mem = s.mem := rfl
@[simp] theorem setFsm_host : (s.setFsm f).host = s.host := rfl
@[simp] theorem setFsm_bus : (s.setFsm f).bus = s.bus := rfl
@[simp] theorem setFsm_tasks : (s.setFsm f).tasks = s.tasks := rfl
@[simp] theorem setFsm_wk : (s.setFsm f).wk = s.wk := rfl
@[simp] theorem setFsm_freeCtr : (s.setFsm f).freeCtr = s.freeCtr := rfl
end setFsm

section setCmdErr
variable (s : State) (b : Bool)
@[simp] theorem setCmdErr_params : (s.setCmdErr b).params = s.params := rfl
@[simp] theorem setCmdErr_csr : (s.setCmdErr b).csr = { s.csr with cmdErr := b } := rfl
@[simp] theorem setCmdErr_sps : (s.setCmdErr b).sps = s.sps := rfl
@[simp] theorem setCmdErr_pps : (s.setCmdErr b).pps = s.pps := rfl
@[simp] theorem setCmdErr_fs : (s.setCmdErr b).fs = s.fs := rfl
@[simp] theorem setCmdErr_maxLongTermFrameIdx : (s.setCmdErr b).maxLongTermFrameIdx = s.maxLongTermFrameIdx := rfl
@[simp] theorem setCmdErr_savedPools : (s.setCmdErr b).savedPools = s.savedPools := rfl
@[simp] theorem setCmdErr_au : (s.setCmdErr b).au = s.au := rfl
@[simp] theorem setCmdErr_sl : (s.setCmdErr b).sl = s.sl := rfl
@[simp] theorem setCmdErr_ds : (s.setCmdErr b).ds = s.ds := rfl
@[simp] theorem setCmdErr_mb : (s.setCmdErr b).mb = s.mb := rfl
@[simp] theorem setCmdErr_br : (s.setCmdErr b).br = s.br := rfl
@[simp] theorem setCmdErr_dbk : (s.setCmdErr b).dbk = s.dbk := rfl
@[simp] theorem setCmdErr_cabac : (s.setCmdErr b).cabac = s.cabac := rfl
@[simp] theorem setCmdErr_mem : (s.setCmdErr b).mem = s.mem := rfl
@[simp] theorem setCmdErr_host : (s.setCmdErr b).host = s.host := rfl
@[simp] theorem setCmdErr_bus : (s.setCmdErr b).bus = s.bus := rfl
@[simp] theorem setCmdErr_tasks : (s.setCmdErr b).tasks = s.tasks := rfl
@[simp] theorem setCmdErr_wk : (s.setCmdErr b).wk = s.wk := rfl
@[simp] theorem setCmdErr_freeCtr : (s.setCmdErr b).freeCtr = s.freeCtr := rfl
end setCmdErr

section warnIpcm
variable (s : State) 
@[simp] theorem warnIpcm_params : (s.warnIpcm).params = s.params := rfl
@[simp] theorem warnIpcm_csr : (s.warnIpcm).csr = { s.csr with warnIpcm := true } := rfl
@[simp] theorem warnIpcm_sps : (s.warnIpcm).sps = s.sps := rfl
@[simp] theorem warnIpcm_pps : (s.warnIpcm).pps = s.pps := rfl
@[simp] theorem warnIpcm_fs : (s.warnIpcm).fs = s.fs := rfl
@[simp] theorem warnIpcm_maxLongTermFrameIdx : (s.warnIpcm).maxLongTermFrameIdx = s.maxLongTermFrameIdx := rfl
@[simp] theorem warnIpcm_savedPools : (s.warnIpcm).savedPools = s.savedPools := rfl
@[simp] theorem warnIpcm_au : (s.warnIpcm).au = s.au := rfl
@[simp] theorem warnIpcm_sl : (s.warnIpcm).sl = s.sl := rfl
@[simp] theorem warnIpcm_ds : (s.warnIpcm).ds = s.ds := rfl
@[simp] theorem warnIpcm_mb : (s.warnIpcm).mb = s.mb := rfl
@[simp] theorem warnIpcm_br : (s.warnIpcm).br = s.br := rfl
@[simp] theorem warnIpcm_dbk : (s.warnIpcm).dbk = s.dbk := rfl
@[simp] theorem warnIpcm_cabac : (s.warnIpcm).cabac = s.cabac := rfl
@[simp] theorem warnIpcm_mem : (s.warnIpcm).mem = s.mem := rfl
@[simp] theorem warnIpcm_host : (s.warnIpcm).host = s.host := rfl
@[simp] theorem warnIpcm_bus : (s.warnIpcm).bus = s.bus := rfl
@[simp] theorem warnIpcm_tasks : (s.warnIpcm).tasks = s.tasks := rfl
@[simp] theorem warnIpcm_wk : (s.warnIpcm).wk = s.wk := rfl
@[simp] theorem warnIpcm_freeCtr : (s.warnIpcm).freeCtr = s.freeCtr := rfl
end warnIpcm

section setElem
variable (s : State) (v : Int) (v2 : Nat)
@[simp] theorem setElem_params : (s.setElem v v2).params = s.params := rfl
@[simp] theorem setElem_csr : (s.setElem v v2).csr = s.csr := rfl
@[simp] theorem setElem_sps : (s.setElem v v2).sps = s.sps := rfl
@[simp] theorem setElem_pps : (s.setElem v v2).pps = s.pps := rfl
@[simp] theorem setElem_fs : (s.setElem v v2).fs = s.fs := rfl
@[simp] theorem setElem_maxLongTermFrameIdx : (s.setElem v v2).maxLongTermFrameIdx = s.maxLongTermFrameIdx := rfl
@[simp] theorem setElem_savedPools : (s.setElem v v2).savedPools = s.savedPools := rfl
@[simp] theorem setElem_au : (s.setElem v v2).au = s.au := rfl
@[simp] theorem setElem_sl : (s.setElem v v2).sl = s.sl := rfl
@[simp] theorem setElem_ds : (s.setElem v v2).ds = s.ds := rfl
@[simp] theorem setElem_mb : (s.setElem v v2).mb = s.mb := rfl
@[simp] theorem setElem_br : (s.setElem v v2).br = s.br := rfl
@[simp] theorem setElem_dbk : (s.setElem v v2).dbk = s.dbk := rfl
@[simp] theorem setElem_cabac : (s.setElem v v2).cabac = s.cabac := rfl
@[simp] theorem setElem_mem : (s.setElem v v2).mem = s.mem := rfl
@[simp] theorem setElem_host : (s.setElem v v2).host = s.host := rfl
@[simp] theorem setElem_bus : (s.setElem v v2).bus = s.bus := rfl
@[simp] theorem setElem_tasks : (s.setElem v v2).tasks = s.tasks := rfl
@[simp] theorem setElem_wk : (s.setElem v v2).wk = { s.wk with elem := v, elem2 := v2 } := rfl
@[simp] theorem setElem_freeCtr : (s.setElem v v2).freeCtr = s.freeCtr := rfl
end setElem

section updQp
variable (s : State) (d : Int)
@[simp] theorem updQp_params : (s.updQp d).params = s.params := rfl
@[simp] theorem updQp_csr : (s.updQp d).csr = s.csr := rfl
@[simp] theorem updQp_sps : (s.updQp d).sps = s.sps := rfl
@[simp] theorem updQp_pps : (s.updQp d).pps = s.pps := rfl
@[simp] theorem updQp_fs : (s.updQp d).fs = s.fs := rfl
@[simp] theorem updQp_maxLongTermFrameIdx : (s.updQp d).maxLongTermFrameIdx = s.maxLongTermFrameIdx := rfl
@[simp] theorem updQp_savedPools : (s.updQp d).savedPools = s.savedPools := rfl
@[simp] theorem updQp_au : (s.updQp d).au = s.au := rfl
@[simp] theorem updQp_sl : (s.updQp d).sl = s.sl := rfl
@[simp] theorem updQp_ds : (s.updQp d).ds = { s.ds with qpYPrev := s.ds.qpY, qpY := (s.ds.qpY + d) % 52, prevMbQpDeltaNonZero := decide (d ≠ 0) } := rfl
@[simp] theorem updQp_mb : (s.updQp d).mb = s.mb := rfl
@[simp] theorem updQp_br : (s.updQp d).br = s.br := rfl
@[simp] theorem updQp_dbk : (s.updQp d).dbk = s.dbk := rfl
@[simp] theorem updQp_cabac : (s.updQp d).cabac = s.cabac := rfl
@[simp] theorem updQp_mem : (s.updQp d).mem = s.mem := rfl
@[simp] theorem updQp_host : (s.updQp d).host = s.host := rfl
@[simp] theorem updQp_bus : (s.updQp d).bus = s.bus := rfl
@[simp] theorem updQp_tasks : (s.updQp d).tasks = s.tasks := rfl
@[simp] theorem updQp_wk : (s.updQp d).wk = s.wk := rfl
@[simp] theorem updQp_freeCtr : (s.updQp d).freeCtr = s.freeCtr := rfl
end updQp

section sliceEnd
variable (s : State) 
@[simp] theorem sliceEnd_params : (s.sliceEnd).params = s.params := rfl
@[simp] theorem sliceEnd_csr : (s.sliceEnd).csr = { s.csr with fsm := .complete } := rfl
@[simp] theorem sliceEnd_sps : (s.sliceEnd).sps = s.sps := rfl
@[simp] theorem sliceEnd_pps : (s.sliceEnd).pps = s.pps := rfl
@[simp] theorem sliceEnd_fs : (s.sliceEnd).fs = s.fs := rfl
@[simp] theorem sliceEnd_maxLongTermFrameIdx : (s.sliceEnd).maxLongTermFrameIdx = s.maxLongTermFrameIdx := rfl
@[simp] theorem sliceEnd_savedPools : (s.sliceEnd).savedPools = s.savedPools := rfl
@[simp] theorem sliceEnd_au : (s.sliceEnd).au = s.au := rfl
@[simp] theorem sliceEnd_sl : (s.sliceEnd).sl = none := rfl
@[simp] theorem sliceEnd_ds : (s.sliceEnd).ds = Ds.reset := rfl
@[simp] theorem sliceEnd_mb : (s.sliceEnd).mb = s.mb := rfl
@[simp] theorem sliceEnd_br : (s.sliceEnd).br = s.br := rfl
@[simp] theorem sliceEnd_dbk : (s.sliceEnd).dbk = s.dbk := rfl
@[simp] theorem sliceEnd_cabac : (s.sliceEnd).cabac = s.cabac := rfl
@[simp] theorem sliceEnd_mem : (s.sliceEnd).mem = s.mem := rfl
@[simp] theorem sliceEnd_host : (s.sliceEnd).host = s.host := rfl
@[simp] theorem sliceEnd_bus : (s.sliceEnd).bus = s.bus := rfl
@[simp] theorem sliceEnd_tasks : (s.sliceEnd).tasks = s.tasks := rfl
@[simp] theorem sliceEnd_wk : (s.sliceEnd).wk = s.wk := rfl
@[simp] theorem sliceEnd_freeCtr : (s.sliceEnd).freeCtr = s.freeCtr := rfl
end sliceEnd

section setPs
variable (s : State) (p : Ps)
@[simp] theorem setPs_params : (s.setPs p).params = s.params := rfl
@[simp] theorem setPs_csr : (s.setPs p).csr = s.csr := rfl
@[simp] theorem setPs_sps : (s.setPs p).sps = s.sps := rfl
@[simp] theorem setPs_pps : (s.setPs p).pps = s.pps := rfl
@[simp] theorem setPs_fs : (s.setPs p).fs = s.fs := rfl
@[simp] theorem setPs_maxLongTermFrameIdx : (s.setPs p).maxLongTermFrameIdx = s.maxLongTermFrameIdx := rfl
@[simp] theorem setPs_savedPools : (s.setPs p).savedPools = s.savedPools := rfl
@[simp] theorem setPs_au : (s.setPs p).au = s.au := rfl
@[simp] theorem setPs_sl : (s.setPs p).sl = s.sl := rfl
@[simp] theorem setPs_ds : (s.setPs p).ds = s.ds := rfl
@[simp] theorem setPs_mb : (s.setPs p).mb = p.mb := rfl
@[simp] theorem setPs_br : (s.setPs p).br = p.br := rfl
@[simp] theorem setPs_dbk : (s.setPs p).dbk = s.dbk := rfl
@[simp] theorem setPs_cabac : (s.setPs p).cabac = p.cabac := rfl
@[simp] theorem setPs_mem : (s.setPs p).mem = s.mem := rfl
@[simp] theorem setPs_host : (s.setPs p).host = s.host := rfl
@[simp] theorem setPs_bus : (s.setPs p).bus = s.bus := rfl
@[simp] theorem setPs_tasks : (s.setPs p).tasks = s.tasks := rfl
@[simp] theorem setPs_wk : (s.setPs p).wk = { s.wk with cur := p.cur } := rfl
@[simp] theorem setPs_freeCtr : (s.setPs p).freeCtr = s.freeCtr := rfl
end setPs

section deliver
variable (s : State) (v : Word)
@[simp] theorem deliver_params : (s.deliver v).params = s.params := rfl
@[simp] theorem deliver_csr : (s.deliver v).csr = s.csr := rfl
@[simp] theorem deliver_sps : (s.deliver v).sps = s.sps := rfl
@[simp] theorem deliver_pps : (s.deliver v).pps = s.pps := rfl
@[simp] theorem deliver_fs : (s.deliver v).fs = s.fs := rfl
@[simp] theorem deliver_maxLongTermFrameIdx : (s.deliver v).maxLongTermFrameIdx = s.maxLongTermFrameIdx := rfl
@[simp] theorem deliver_savedPools : (s.deliver v).savedPools = s.savedPools := rfl
@[simp] theorem deliver_au : (s.deliver v).au = s.au := rfl
@[simp] theorem deliver_sl : (s.deliver v).sl = s.sl := rfl
@[simp] theorem deliver_ds : (s.deliver v).ds = s.ds := rfl
@[simp] theorem deliver_mb : (s.deliver v).mb = s.mb := rfl
@[simp] theorem deliver_br : (s.deliver v).br = s.br := rfl
@[simp] theorem deliver_dbk : (s.deliver v).dbk = s.dbk := rfl
@[simp] theorem deliver_cabac : (s.deliver v).cabac = s.cabac := rfl
@[simp] theorem deliver_mem : (s.deliver v).mem = s.mem := rfl
@[simp] theorem deliver_host : (s.deliver v).host = s.host := rfl
@[simp] theorem deliver_bus : (s.deliver v).bus = { s.bus with lastRead := v } := rfl
@[simp] theorem deliver_tasks : (s.deliver v).tasks = s.tasks := rfl
@[simp] theorem deliver_wk : (s.deliver v).wk = s.wk := rfl
@[simp] theorem deliver_freeCtr : (s.deliver v).freeCtr = s.freeCtr := rfl
end deliver

section dropPartial
variable (s : State) 
@[simp] theorem dropPartial_params : (s.dropPartial).params = s.params := rfl
@[simp] theorem dropPartial_csr : (s.dropPartial).csr = s.csr := rfl
@[simp] theorem dropPartial_sps : (s.dropPartial).sps = s.sps := rfl
@[simp] theorem dropPartial_pps : (s.dropPartial).pps = s.pps := rfl
@[simp] theorem dropPartial_fs : (s.dropPartial).fs = s.fs := rfl
@[simp] theorem dropPartial_maxLongTermFrameIdx : (s.dropPartial).maxLongTermFrameIdx = s.maxLongTermFrameIdx := rfl
@[simp] theorem dropPartial_savedPools : (s.dropPartial).savedPools = s.savedPools := rfl
@[simp] theorem dropPartial_au : (s.dropPartial).au = s.au := rfl
@[simp] theorem dropPartial_sl : (s.dropPartial).sl = s.sl := rfl
@[simp] theorem dropPartial_ds : (s.dropPartial).ds = s.ds := rfl
@[simp] theorem dropPartial_mb : (s.dropPartial).mb = MbRec.cleared := rfl
@[simp] theorem dropPartial_br : (s.dropPartial).br = s.br := rfl
@[simp] theorem dropPartial_dbk : (s.dropPartial).dbk = s.dbk := rfl
@[simp] theorem dropPartial_cabac : (s.dropPartial).cabac = s.cabac := rfl
@[simp] theorem dropPartial_mem : (s.dropPartial).mem = s.mem := rfl
@[simp] theorem dropPartial_host : (s.dropPartial).host = s.host := rfl
@[simp] theorem dropPartial_bus : (s.dropPartial).bus = s.bus := rfl
@[simp] theorem dropPartial_tasks : (s.dropPartial).tasks = s.tasks := rfl
@[simp] theorem dropPartial_wk : (s.dropPartial).wk = Wk.reset := rfl
@[simp] theorem dropPartial_freeCtr : (s.dropPartial).freeCtr = s.freeCtr := rfl
end dropPartial

section freeSamples
variable (s : State) (h n : Nat)
@[simp] theorem freeSamples_params : (s.freeSamples h n).params = s.params := rfl
@[simp] theorem freeSamples_csr : (s.freeSamples h n).csr = s.csr := rfl
@[simp] theorem freeSamples_sps : (s.freeSamples h n).sps = s.sps := rfl
@[simp] theorem freeSamples_pps : (s.freeSamples h n).pps = s.pps := rfl
@[simp] theorem freeSamples_fs : (s.freeSamples h n).fs = s.fs := rfl
@[simp] theorem freeSamples_maxLongTermFrameIdx : (s.freeSamples h n).maxLongTermFrameIdx = s.maxLongTermFrameIdx := rfl
@[simp] theorem freeSamples_savedPools : (s.freeSamples h n).savedPools = s.savedPools := rfl
@[simp] theorem freeSamples_au : (s.freeSamples h n).au = s.au := rfl
@[simp] theorem freeSamples_sl : (s.freeSamples h n).sl = s.sl := rfl
@[simp] theorem freeSamples_ds : (s.freeSamples h n).ds = s.ds := rfl
@[simp] theorem freeSamples_mb : (s.freeSamples h n).mb = s.mb := rfl
@[simp] theorem freeSamples_br : (s.freeSamples h n).br = s.br := rfl
@[simp] theorem freeSamples_dbk : (s.freeSamples h n).dbk = s.dbk := rfl
@[simp] theorem freeSamples_cabac : (s.freeSamples h n).cabac = s.cabac := rfl
@[simp] theorem freeSamples_mem : (s.freeSamples h n).mem = Mem.fill s.mem (s.frameStart h) (384 * n) (Config.freeSample s.freeCtr) := rfl
@[simp] theorem freeSamples_host : (s.freeSamples h n).host = s.host := rfl
@[simp] theorem freeSamples_bus : (s.freeSamples h n).bus = s.bus := rfl
@[simp] theorem freeSamples_tasks : (s.freeSamples h n).tasks = s.tasks := rfl
@[simp] theorem freeSamples_wk : (s.freeSamples h n).wk = s.wk := rfl
@[simp] theorem freeSamples_freeCtr : (s.freeSamples h n).freeCtr = s.freeCtr + 1 := rfl
end freeSamples

section nalDone
variable (s : State) 
@[simp] theorem nalDone_params : (s.nalDone).params = s.params := rfl
@[simp] theorem nalDone_csr : (s.nalDone).csr = { s.csr with nalCount := s.csr.nalCount + 1, busy := false } := rfl
@[simp] theorem nalDone_sps : (s.nalDone).sps = s.sps := rfl
@[simp] theorem nalDone_pps : (s.nalDone).pps = s.pps := rfl
@[simp] theorem nalDone_fs : (s.nalDone).fs = s.fs := rfl
@[simp] theorem nalDone_maxLongTermFrameIdx : (s.nalDone).maxLongTermFrameIdx = s.maxLongTermFrameIdx := rfl
@[simp] theorem nalDone_savedPools : (s.nalDone).savedPools = s.savedPools := rfl
@[simp] theorem nalDone_au : (s.nalDone).au = { s.au with nalIndex := s.au.nalIndex + 1 } := rfl
@[simp] theorem nalDone_sl : (s.nalDone).sl = s.sl := rfl
@[simp] theorem nalDone_ds : (s.nalDone).ds = s.ds := rfl
@[simp] theorem nalDone_mb : (s.nalDone).mb = s.mb := rfl
@[simp] theorem nalDone_br : (s.nalDone).br = s.br := rfl
@[simp] theorem nalDone_dbk : (s.nalDone).dbk = s.dbk := rfl
@[simp] theorem nalDone_cabac : (s.nalDone).cabac = s.cabac := rfl
@[simp] theorem nalDone_mem : (s.nalDone).mem = s.mem := rfl
@[simp] theorem nalDone_host : (s.nalDone).host = s.host := rfl
@[simp] theorem nalDone_bus : (s.nalDone).bus = s.bus := rfl
@[simp] theorem nalDone_tasks : (s.nalDone).tasks = s.tasks := rfl
@[simp] theorem nalDone_wk : (s.nalDone).wk = s.wk := rfl
@[simp] theorem nalDone_freeCtr : (s.nalDone).freeCtr = s.freeCtr := rfl
end nalDone

end Sys2Proof.Machine
end

