-- ==== Sys2Proof/Laws/Memory.lean ====
section
/-! SUPPORT. Memory: a read after a write, and every memory operation keeps the canonical form (20_memory.md R108). -/

namespace Sys2Proof.Machine

theorem Mem.read_write_same (m : List Host.Cell) (a : Nat) (v : Byte) : Mem.read (Mem.write m a v) a = some v := by
  induction m with
  | nil => simp [Mem.write, Mem.read]
  | cons c r ih =>
    simp only [Mem.write]
    split
    · simp [Mem.read]
    · split
      · simp [Mem.read]
      · have : c.1 ≠ a := by omega
        simp [Mem.read, *]

theorem Mem.read_write_other (m : List Host.Cell) (a b : Nat) (v : Byte) (h : b ≠ a) :
    Mem.read (Mem.write m a v) b = Mem.read m b := by
  induction m with
  | nil =>
    have : a ≠ b := Ne.symm h
    simp [Mem.write, Mem.read, this]
  | cons c r ih =>
    simp only [Mem.write]
    split
    · have : a ≠ b := Ne.symm h
      simp only [Mem.read, this, if_false]
      split
      · have h1 : c.1 ≠ b := by omega
        have h2 : b < c.1 := by omega
        simp [h1, h2]
      · rfl
    · split
      · subst_vars
        have : ¬ c.1 = b := Ne.symm h
        simp [Mem.read, this]
      · simp [Mem.read, ih]

/-- The first address of a written memory. -/
theorem Mem.head_write (c : Host.Cell) (r : List Host.Cell) (a : Nat) (v : Byte) (h : c.1 < a) (hw : Mem.wf (c :: r) = true)
    (ih : Mem.wf (Mem.write r a v) = true) : Mem.wf (c :: Mem.write r a v) = true := by
  cases r with
  | nil => simp [Mem.write, Mem.wf, h]
  | cons d r =>
    simp only [Mem.wf, Bool.and_eq_true, decide_eq_true_eq] at hw
    simp only [Mem.write] at ih ⊢
    split
    · simp_all [Mem.wf]
    · split
      · simp_all [Mem.wf]
      · simp_all [Mem.wf]

theorem Mem.wf_tail (c : Host.Cell) (r : List Host.Cell) (h : Mem.wf (c :: r) = true) : Mem.wf r = true := by
  cases r with
  | nil => rfl
  | cons d r => simp_all [Mem.wf]

/-- A write keeps the canonical form. -/
theorem Mem.wf_write (m : List Host.Cell) (a : Nat) (v : Byte) (h : Mem.wf m = true) : Mem.wf (Mem.write m a v) = true := by
  induction m with
  | nil => rfl
  | cons c r ih =>
    have ht := Mem.wf_tail c r h
    simp only [Mem.write]
    split
    · rename_i hlt
      simp [Mem.wf, hlt, h]
    · split
      · rename_i heq
        cases r with
        | nil => rfl
        | cons d r => simp_all [Mem.wf]
      · exact Mem.head_write c r a v (by omega) h (ih ht)

/-- Several writes keep the canonical form. -/
theorem Mem.wf_writeAll (ws : List (Nat × Byte)) (m : List Host.Cell) (h : Mem.wf m = true) :
    Mem.wf (Mem.writeAll m ws) = true := by
  induction ws generalizing m with
  | nil => exact h
  | cons w ws ih => exact ih _ (Mem.wf_write m w.1 w.2 h)

/-- Writes elsewhere leave a byte alone. -/
theorem Mem.read_writeAll_other (ws : List (Nat × Byte)) (m : List Host.Cell) (b : Nat) (h : ∀ w ∈ ws, w.1 ≠ b) :
    Mem.read (Mem.writeAll m ws) b = Mem.read m b := by
  induction ws generalizing m with
  | nil => rfl
  | cons w ws ih =>
    have h1 := h w (by simp)
    have := ih (Mem.write m w.1 w.2) (fun x hx => h x (by simp [hx]))
    simp only [Mem.writeAll, List.foldl_cons] at this ⊢
    rw [this, Mem.read_write_other _ _ _ _ (Ne.symm h1)]

/-! ### Filling -/

/-- The canonical form says that every two entries are in strict order. -/
theorem Mem.wf_iff (m : List Host.Cell) : Mem.wf m = true ↔ m.Pairwise (fun c d => c.1 < d.1) := by
  induction m with
  | nil => simp [Mem.wf]
  | cons c r ih =>
    cases r with
    | nil => simp [Mem.wf]
    | cons d r =>
      rw [Mem.wf, Bool.and_eq_true, decide_eq_true_eq, ih, List.pairwise_cons (a := c)]
      constructor
      · rintro ⟨hlt, hp⟩
        refine ⟨fun e he => ?_, hp⟩
        rcases List.mem_cons.1 he with rfl | he
        · exact hlt
        · exact Nat.lt_trans hlt ((List.pairwise_cons.1 hp).1 e he)
      · rintro ⟨hc, hp⟩
        exact ⟨hc d (by simp), hp⟩

/-- Filling keeps the canonical form. -/
theorem Mem.wf_fill (m : List Host.Cell) (lo n : Nat) (f : Nat → Byte) (h : Mem.wf m = true) :
    Mem.wf (Mem.fill m lo n f) = true := by
  rw [Mem.wf_iff] at h ⊢
  have hr : ((List.range n).map fun i => (lo + i, f (lo + i))).Pairwise (fun c d : Host.Cell => c.1 < d.1) :=
    List.pairwise_map.2 (List.pairwise_lt_range.imp fun hab => Nat.add_lt_add_left hab lo)
  refine List.pairwise_append.2 ⟨List.pairwise_append.2 ⟨h.filter _, hr, ?_⟩, h.filter _, ?_⟩
  · intro c hc d hd
    simp only [List.mem_filter, decide_eq_true_eq, List.mem_map, List.mem_range] at hc hd
    obtain ⟨i, _, rfl⟩ := hd
    simp only
    omega
  · intro c hc d hd
    simp only [List.mem_append, List.mem_filter, decide_eq_true_eq, List.mem_map, List.mem_range] at hc hd
    rcases hc with hc | ⟨i, hi, rfl⟩
    · omega
    · simp only
      omega

/-- A read finds an entry of a memory in canonical form. -/
theorem Mem.read_of_mem (m : List Host.Cell) (h : Mem.wf m = true) (a : Nat) (v : Byte) :
    Mem.read m a = some v ↔ (a, v) ∈ m := by
  rw [Mem.wf_iff] at h
  induction m with
  | nil => simp [Mem.read]
  | cons c r ih =>
    obtain ⟨hc, hp⟩ := List.pairwise_cons.1 h
    have hno (w : Byte) (hle : a ≤ c.1) : (a, w) ∉ r := fun hm => absurd (hc _ hm) (by simp only; omega)
    simp only [Mem.read]
    split
    · rename_i e
      subst e
      have := hno v (Nat.le_refl _)
      simp [this, Prod.ext_iff, eq_comm]
    · rename_i hne
      have hne' : (a, v) ≠ c := fun e => hne (by rw [← e])
      split
      · rename_i hlt
        have := hno v (Nat.le_of_lt hlt)
        simp [this, hne']
      · simp [ih hp, hne']

/-- Inside the filled range a read gives the filling, outside what it gave before. -/
theorem Mem.read_fill (m : List Host.Cell) (lo n : Nat) (f : Nat → Byte) (h : Mem.wf m = true) (a : Nat) :
    Mem.read (Mem.fill m lo n f) a = if lo ≤ a ∧ a < lo + n then some (f a) else Mem.read m a := by
  have hw := Mem.wf_fill m lo n f h
  split
  · rename_i hin
    refine (Mem.read_of_mem _ hw _ _).2 ?_
    refine List.mem_append_left _ (List.mem_append_right _ (List.mem_map.2 ⟨a - lo, List.mem_range.2 (by omega), ?_⟩))
    have : lo + (a - lo) = a := by omega
    simp [this]
  · rename_i hout
    apply Option.ext
    intro v
    rw [Mem.read_of_mem _ hw, Mem.read_of_mem _ h]
    simp only [Mem.fill, List.mem_append, List.mem_filter, List.mem_map, List.mem_range, decide_eq_true_eq, Prod.ext_iff]
    constructor
    · rintro ((hm | ⟨i, hi, rfl, _⟩) | hm)
      · exact hm.1
      · omega
      · exact hm.1
    · intro hm
      by_cases hlt : a < lo
      · exact .inl (.inl ⟨hm, hlt⟩)
      · exact .inr ⟨hm, by omega⟩

end Sys2Proof.Machine
end

