-- ==== Sys2Proof/Laws/Errors.lean ====
section
/-! SUPPORT. Everything that recording an error and leaving by its scope can do (60_exceptions.md R810-R822). -/

namespace Sys2Proof.Machine

/-- Recording changes nothing but the three error registers, and those only when no error is latched (R813). -/
theorem recordAt_eq (s : State) (e : ErrCode) (p : Nat) :
    s.recordAt e p = s.setCsr (if s.csr.errCode = 0 then
      { s.csr with errCode := e.code, errInfo := s.errInfoNow, errPos := BitVec.ofNat 32 p } else s.csr) := by
  unfold State.recordAt
  split <;> rfl

/-- What an error can change: registers, the slice in progress with its macroblock and working values, `AU.failed` and the pending work. -/
structure ErrorFrame (s t : State) : Prop where
  params : t.params = s.params
  sps : t.sps = s.sps
  pps : t.pps = s.pps
  fs : t.fs = s.fs
  maxLong : t.maxLongTermFrameIdx = s.maxLongTermFrameIdx
  savedPools : t.savedPools = s.savedPools
  au : t.au = { s.au with failed := t.au.failed }
  br : t.br = s.br
  dbk : t.dbk = s.dbk
  cabac : t.cabac = s.cabac
  mem : t.mem = s.mem
  host : t.host = s.host
  bus : t.bus = s.bus
  freeCtr : t.freeCtr = s.freeCtr
  csr : t.csr = { s.csr with errCode := t.csr.errCode, errInfo := t.csr.errInfo, errPos := t.csr.errPos,
                             fsm := t.csr.fsm, sliceErr := t.csr.sliceErr }

theorem recordAt_frame (s : State) (e : ErrCode) (p : Nat) : ErrorFrame s (s.recordAt e p) := by
  unfold State.recordAt
  split <;> constructor <;> rfl

@[simp] theorem abandon_csr (s : State) : s.abandon.csr = s.csr := rfl
@[simp] theorem sliceAbort_csr (s : State) : s.sliceAbort.csr = { s.csr with sliceErr := true, fsm := .complete } := rfl
@[simp] theorem auFail_csr (s : State) : s.auFail.csr = { s.csr with fsm := .complete } := rfl

theorem sliceAbort_frame (s : State) : ErrorFrame s s.sliceAbort := by constructor <;> rfl

theorem auFail_frame (s : State) : ErrorFrame s s.auFail := by constructor <;> rfl

theorem abandon_frame (s : State) : ErrorFrame s s.abandon := by constructor <;> rfl

theorem ErrorFrame.trans {s t u : State} (a : ErrorFrame s t) (b : ErrorFrame t u) : ErrorFrame s u := by
  obtain ⟨a1, a2, a3, a4, a5, a6, a7, a8, a9, a10, a11, a12, a13, a14, a15⟩ := a
  obtain ⟨b1, b2, b3, b4, b5, b6, b7, b8, b9, b10, b11, b12, b13, b14, b15⟩ := b
  have hau : u.au = { s.au with failed := u.au.failed } := by
    refine b7.trans ?_
    rw [a7]
  have hcsr : u.csr = { s.csr with errCode := u.csr.errCode, errInfo := u.csr.errInfo, errPos := u.csr.errPos,
                                   fsm := u.csr.fsm, sliceErr := u.csr.sliceErr } := by
    refine b15.trans ?_
    rw [a15]
  exact ⟨b1.trans a1, b2.trans a2, b3.trans a3, b4.trans a4, b5.trans a5, b6.trans a6, hau, b8.trans a8,
    b9.trans a9, b10.trans a10, b11.trans a11, b12.trans a12, b13.trans a13, b14.trans a14, hcsr⟩

theorem raise_frame (s : State) (e : ErrCode) : ErrorFrame s (s.raise e) := by
  have h := recordAt_frame s e s.br.cursor
  unfold State.raise
  simp only
  split
  · cases e <;> first | exact h.trans (sliceAbort_frame _) | exact h.trans (auFail_frame _)
  · exact h.trans (abandon_frame _)

/-- The pending work after an error: only the completion of a busy command (R836). -/
theorem raise_tasks (s : State) (e : ErrCode) : (s.raise e).tasks = if s.csr.busy then [.nalDone] else [] := by
  have h : (s.record e).csr.busy = s.csr.busy := by
    unfold State.record State.recordAt
    split <;> rfl
  unfold State.raise
  simp only
  split
  · cases e <;> simp [State.sliceAbort, State.auFail, State.abandon, h]
  · simp [State.abandon, h]

/-- In a slice, an error ends the slice and leaves no partial macroblock (R820, R821, R823). -/
theorem raise_inSlice (s : State) (e : ErrCode) (h : s.inSlice = true) :
    (s.raise e).csr.fsm = .complete ∧ (s.raise e).sl = none ∧ (s.raise e).ds = Ds.reset ∧
      (s.raise e).mb = MbRec.cleared ∧ (s.raise e).wk = Wk.reset := by
  unfold State.raise
  simp only [h, if_true]
  cases e <;> exact ⟨rfl, rfl, rfl, rfl, rfl⟩

/-- Parsing either goes on with the value read, or raises the reader's error with the bit reader where it stopped. -/
theorem parse_ok {α : Type} (s : State) (r : Rd α) (k : α → State → State) (v : α) (p : Ps) (h : r s.ps = .ok v p) :
    s.parse r k = k v (s.setPs p) := by simp [State.parse, h]

theorem parse_error {α : Type} (s : State) (r : Rd α) (k : α → State → State) (e : ErrCode) (p : Ps)
    (h : r s.ps = .error e p) : s.parse r k = ((s.setBr p.br).setCabac p.cabac).raise e := by simp [State.parse, h]

end Sys2Proof.Machine
end

