-- ==== Sys2Proof/Laws/Quiet.lean ====
section
/-! SUPPORT. What every operation but SRST leaves alone: memory, the host's queue, the parameters, the tables' sizes, the registers that only the host writes, and the agreement of the error registers. One lemma per shared operation, in the form "after it". -/

namespace Sys2Proof.Machine

structure Quiet (s t : State) : Prop where
  params : t.params = s.params
  mem : t.mem = s.mem
  host : t.host = s.host
  sps : t.sps.length = s.sps.length
  pps : t.pps.length = s.pps.length
  fs : t.fs.length = s.fs.length
  dbk : t.dbk.length = s.dbk.length
  nalAddr : t.csr.nalAddr = s.csr.nalAddr
  nalLen : t.csr.nalLen = s.csr.nalLen
  relHandle : t.csr.relHandle = s.csr.relHandle
  frameBase : t.csr.frameBase = s.csr.frameBase
  errors : s.csr.errorsOk = true → t.csr.errorsOk = true

namespace Quiet

theorem refl (s : State) : Quiet s s := by constructor <;> first | rfl | exact id

theorem trans {s t u : State} (a : Quiet s t) (b : Quiet t u) : Quiet s u :=
  ⟨b.params.trans a.params, b.mem.trans a.mem, b.host.trans a.host, b.sps.trans a.sps, b.pps.trans a.pps,
   b.fs.trans a.fs, b.dbk.trans a.dbk, b.nalAddr.trans a.nalAddr, b.nalLen.trans a.nalLen,
   b.relHandle.trans a.relHandle, b.frameBase.trans a.frameBase, fun h => b.errors (a.errors h)⟩

/-! ### Setters -/

section
variable {s u : State} (h : Quiet s u)
include h
theorem setMaxLong (v : Option Nat) : Quiet s (u.setMaxLong v) := h.trans (by constructor <;> first | rfl | exact id)
theorem setSavedPools (v : Option Pools) : Quiet s (u.setSavedPools v) := h.trans (by constructor <;> first | rfl | exact id)
theorem setAu (v : Au) : Quiet s (u.setAu v) := h.trans (by constructor <;> first | rfl | exact id)
theorem setSl (v : Option SliceHdr) : Quiet s (u.setSl v) := h.trans (by constructor <;> first | rfl | exact id)
theorem setDs (v : Ds) : Quiet s (u.setDs v) := h.trans (by constructor <;> first | rfl | exact id)
theorem setMb (v : MbRec) : Quiet s (u.setMb v) := h.trans (by constructor <;> first | rfl | exact id)
theorem setBr (v : Br) : Quiet s (u.setBr v) := h.trans (by constructor <;> first | rfl | exact id)
theorem setCabac (v : Cabac) : Quiet s (u.setCabac v) := h.trans (by constructor <;> first | rfl | exact id)
theorem setBus (v : Bus) : Quiet s (u.setBus v) := h.trans (by constructor <;> first | rfl | exact id)
theorem setTasks (v : List Task) : Quiet s (u.setTasks v) := h.trans (by constructor <;> first | rfl | exact id)
theorem setWk (v : Wk) : Quiet s (u.setWk v) := h.trans (by constructor <;> first | rfl | exact id)
theorem push (v : List Task) : Quiet s (u.push v) := h.trans (by constructor <;> first | rfl | exact id)
theorem drawn (n : Nat) : Quiet s (u.drawn n) := h.trans (by constructor <;> first | rfl | exact id)
theorem setPs (p : Ps) : Quiet s (u.setPs p) := h.trans (by constructor <;> first | rfl | exact id)
theorem updSl (f : SliceHdr → SliceHdr) : Quiet s (u.updSl f) := h.trans (by constructor <;> first | rfl | exact id)
theorem setFsm (f : Fsm) : Quiet s (u.setFsm f) := h.trans (by constructor <;> first | rfl | exact id)
theorem setCmdErr (b : Bool) : Quiet s (u.setCmdErr b) := h.trans (by constructor <;> first | rfl | exact id)
theorem warnIpcm : Quiet s u.warnIpcm := h.trans (by constructor <;> first | rfl | exact id)
theorem setBusy : Quiet s u.setBusy := h.trans (by constructor <;> first | rfl | exact id)
theorem sliceEnd : Quiet s u.sliceEnd := h.trans (by constructor <;> first | rfl | exact id)
theorem setElem (v : Int) (w : Nat) : Quiet s (u.setElem v w) := h.trans (by constructor <;> first | rfl | exact id)
theorem updQp (d : Int) : Quiet s (u.updQp d) := h.trans (by constructor <;> first | rfl | exact id)
theorem setSps (v : List (Option Sps)) (hv : v.length = u.sps.length) : Quiet s (u.setSps v) :=
  h.trans (by constructor <;> first | rfl | exact id | exact hv)
theorem setPps (v : List (Option Pps)) (hv : v.length = u.pps.length) : Quiet s (u.setPps v) :=
  h.trans (by constructor <;> first | rfl | exact id | exact hv)
theorem setFs (v : List Frame) (hv : v.length = u.fs.length) : Quiet s (u.setFs v) :=
  h.trans (by constructor <;> first | rfl | exact id | exact hv)
theorem updFrame (i : Nat) (f : Frame → Frame) : Quiet s (u.updFrame i f) := h.setFs _ (by simp)
theorem updDbk (i : Nat) (f : Dbk → Dbk) : Quiet s (u.updDbk i f) :=
  h.trans (by constructor <;> first | rfl | exact id | simp)

/-! ### Errors -/

theorem errorFrame {t : State} (f : ErrorFrame u t) (he : u.csr.errorsOk = true → t.csr.errorsOk = true) : Quiet s t := by
  refine h.trans ⟨f.params, f.mem, f.host, by rw [f.sps], by rw [f.pps], by rw [f.fs], by rw [f.dbk], ?_, ?_, ?_, ?_, he⟩
    <;> rw [f.csr]

end

theorem code_ok (e : ErrCode) : e.code.toNat ≤ 6 ∧ e.code ≠ 0 := by cases e <;> decide

theorem recordAt_errors (s : State) (e : ErrCode) (p : Nat) (h : s.csr.errorsOk = true) :
    (s.recordAt e p).csr.errorsOk = true := by
  unfold State.recordAt
  split
  · have := code_ok e
    simp only [Csr.errorsOk, setCsr_csr, Bool.and_eq_true, Bool.or_eq_true]
    exact ⟨decide_eq_true this.1, .inl (decide_eq_true this.2)⟩
  · exact h

theorem raise_errors (s : State) (e : ErrCode) (h : s.csr.errorsOk = true) : (s.raise e).csr.errorsOk = true := by
  have hr : (s.record e).csr.errorsOk = true := recordAt_errors s e s.br.cursor h
  unfold State.raise
  simp only
  split
  · generalize s.record e = r at hr ⊢
    cases e <;> simp only [sliceAbort_csr, auFail_csr] <;> exact hr
  · rw [abandon_csr]
    exact hr

section
variable {s u : State} (h : Quiet s u)
include h
theorem recordAt (e : ErrCode) (p : Nat) : Quiet s (u.recordAt e p) :=
  h.errorFrame (recordAt_frame u e p) (recordAt_errors u e p)
theorem record (e : ErrCode) : Quiet s (u.record e) := h.recordAt e u.br.cursor
theorem raise (e : ErrCode) : Quiet s (u.raise e) := h.errorFrame (raise_frame u e) (raise_errors u e)
theorem parse {α : Type} (r : Rd α) (k : α → State → State) (hk : ∀ v t, Quiet s t → Quiet s (k v t)) :
    Quiet s (u.parse r k) := by
  unfold State.parse
  split
  · exact hk _ _ (h.setPs _)
  · exact ((h.setBr _).setCabac _).raise _

/-! ### Marking, lists, frames -/

theorem unmark (i : Nat) : Quiet s (u.unmark i) := h.updFrame _ _
end

theorem unmarkAll {s u : State} (h : Quiet s u) (hs : List Nat) : Quiet s (u.unmarkAll hs) := by
  unfold State.unmarkAll
  induction hs generalizing u with
  | nil => exact h
  | cons x xs ih => exact ih (h.unmark x)

theorem slidingWindow {s : State} (n : Nat) {u : State} (h : Quiet s u) : Quiet s (State.slidingWindow n u) := by
  induction n generalizing u with
  | zero => exact h
  | succ n ih =>
    unfold State.slidingWindow
    split
    · split
      · exact ih (h.unmark _)
      · exact h
    · exact h

theorem shrinkPools {s : State} (n : Nat) {u : State} (h : Quiet s u) : Quiet s (State.shrinkPools n u) := by
  induction n generalizing u with
  | zero => exact h
  | succ n ih =>
    unfold State.shrinkPools
    split
    · split
      · exact ih (h.unmark _)
      · exact h
    · exact h

section
variable {s u : State} (h : Quiet s u)
include h
theorem markError : Quiet s u.markError := h.recordAt _ _
theorem boundPools : Quiet s u.boundPools := by
  unfold State.boundPools
  split
  · exact (shrinkPools _ h).markError
  · exact h
theorem updCur (f : Frame → Frame) : Quiet s (u.updCur f) := h.updFrame _ _
theorem finishMarking : Quiet s u.finishMarking := by
  have h1 : Quiet s (if u.wk.curLong then u else u.updCur fun f => { f with mark := .shortTerm }) := by
    split
    · exact h
    · exact h.updCur _
  exact (h1.updCur _).boundPools
theorem emptyPools : Quiet s u.emptyPools := ((h.setSavedPools _).unmarkAll _).setMaxLong _
theorem restorePools : Quiet s u.restorePools := by
  unfold State.restorePools
  split
  · exact h
  · exact ((h.setFs _ (by simp)).setMaxLong _).setSavedPools _
theorem markIdr : Quiet s u.markIdr := by
  unfold State.markIdr
  split
  · exact (h.updCur _).setMaxLong _
  · exact h.updCur _
theorem unmark? (o : Option Nat) : Quiet s (u.unmark? o) := by
  cases o with
  | none => exact h
  | some i => exact h.unmark i
theorem makeLong (i idx : Nat) : Quiet s (u.makeLong i idx) := h.updFrame _ _
theorem rplmMove (t : Option Nat) (same : Nat → Bool) : Quiet s (u.rplmMove t same) := by
  unfold State.rplmMove
  split
  · exact h.raise _
  · exact h.setWk _
theorem computePoc (f : Au → SliceHdr → Poc) : Quiet s (u.computePoc f) := by
  unfold State.computePoc
  simp only
  split
  · exact h.setWk _
  · exact (h.setWk _).restorePools.raise _
theorem predBlock (plane n x y : Nat) (p : IntraNb) (need : Need) (f : IntraNb → Nat → Nat → Int) :
    Quiet s (u.predBlock plane n x y p need f) := by
  unfold State.predBlock
  split
  · exact h.setWk _
  · exact h.raise _
theorem nextMb (ts : List Task) : Quiet s (u.nextMb ts) := by
  unfold State.nextMb
  split
  · exact h.sliceEnd
  · exact (h.setDs _).push _
end

end Quiet

end Sys2Proof.Machine
end

