-- ==== Sys2Proof/Laws/ExecQuiet.lean ====
section
/-! SUPPORT. Every operation but SRST is quiet. -/

namespace Sys2Proof.Machine

namespace Quiet
section
variable {s u : State} (h : Quiet s u)
include h

theorem startNal (n : Nat) (r : BitVec 2) : Quiet s (u.startNal n r) := (h.setBr _).setWk _

theorem startSlice (n : Nat) (r : BitVec 2) : Quiet s (u.startSlice n r) := by
  unfold State.startSlice
  simp only
  split
  · exact ((h.startNal _ _).setFsm _).sliceEnd
  · exact (((h.startNal _ _).setFsm _).setSl _).push _

theorem nalSps (r : BitVec 2) : Quiet s (u.nalSps r) :=
  (h.startNal _ _).parse _ _ fun v t ht => ht.setSps _ (by simp)

theorem nalPps (r : BitVec 2) : Quiet s (u.nalPps r) := by
  unfold State.nalPps
  exact (h.startNal _ _).parse _ _ fun v t ht => ht.setPps _ (by simp)

theorem readElem (r : Rd Int) : Quiet s (u.readElem r) := h.parse _ _ fun _ _ ht => ht.setElem _ _

theorem startAu : Quiet s u.startAu := by
  unfold State.startAu
  split
  · refine (h.trans ?_).setAu _
    constructor <;> first | rfl | (intro; rfl)
  · exact h

theorem startNalCmd : Quiet s u.startNalCmd := by
  unfold State.startNalCmd
  simp only
  split
  · exact (h.setBusy.startAu.record _).setTasks _
  · exact h.setBusy.startAu.setTasks _

theorem startMarking : Quiet s u.startMarking := by
  unfold State.startMarking
  simp only
  split
  · exact h.setWk _
  · split
    · exact (h.setWk _).markIdr
    · split
      · exact (h.setWk _).push _
      · exact (slidingWindow _ (h.setWk _)).finishMarking

theorem startAuEnd : Quiet s u.startAuEnd := by
  have h1 := h.setBusy.setTasks [.auEndFinish]
  unfold State.startAuEnd
  simp only
  split
  · have h2 : Quiet s ((u.setBusy.setTasks [.auEndFinish]).setCsr
        { (u.setBusy.setTasks [.auEndFinish]).csr with auErr := true }) :=
      h1.trans (by constructor <;> first | rfl | exact id)
    split
    · exact h2.restorePools
    · exact h2.restorePools.updFrame _ _
  · split
    · exact h1
    · exact h1.startMarking

theorem release : Quiet s u.release := by
  unfold State.release
  simp only
  split
  · exact h.setCmdErr _
  · exact h.updFrame _ _

theorem setMbType (t : MbType) : Quiet s (u.setMbType t) := (h.setMb _).setWk _
theorem startMb (t : MbType) : Quiet s (u.startMb t) := (h.setMbType t).push _
theorem startSkip (t : MbType) : Quiet s (u.startSkip t) := ((h.setMbType t).updQp _).push _
theorem startPcm : Quiet s u.startPcm := by
  unfold State.startPcm
  exact (h.setMbType _).parse _ _ fun _ _ ht => (((ht.setMb _).warnIpcm).updQp _).push _
theorem setSubType (t : SubType) : Quiet s (u.setSubType t) := (h.setMb _).setWk _
theorem intra4x4 (n : Need) (f : IntraNb → Nat → Nat → Int) : Quiet s (u.intra4x4 n f) := h.predBlock _ _ _ _ _ _ _
theorem intra8x8 (n : Need) (f : IntraNb → Nat → Nat → Int) : Quiet s (u.intra8x8 n f) := h.predBlock _ _ _ _ _ _ _
theorem intra16x16 (n : Need) (f : IntraNb → Nat → Nat → Int) : Quiet s (u.intra16x16 n f) := h.predBlock _ _ _ _ _ _ _
theorem intraChroma (n : Need) (f : IntraNb → Nat → Nat → Int) : Quiet s (u.intraChroma n f) := h.predBlock _ _ _ _ _ _ _
theorem predLumaBlock (f : Samples → Int → Int → Int) : Quiet s (u.predLumaBlock f) := h.setWk _
theorem predChromaBlock (x y : Int) : Quiet s (u.predChromaBlock x y) := h.setWk _
theorem buildMap (f : MapArgs → List Nat) : Quiet s (u.buildMap f) := h.setAu _

theorem rplmShort (v : Nat) (b : Bool) : Quiet s (u.rplmShort v b) := by
  unfold State.rplmShort
  simp only
  split
  · exact h.raise _
  · exact (h.setWk _).rplmMove _ _
theorem rplmEnd : Quiet s u.rplmEnd := h.setSl _

theorem mmcoShortUnused (d : Nat) : Quiet s (u.mmcoShortUnused d) := by
  unfold State.mmcoShortUnused; split
  · exact h.markError
  · exact h.unmark _
theorem mmcoLongUnused (d : Nat) : Quiet s (u.mmcoLongUnused d) := by
  unfold State.mmcoLongUnused; split
  · exact h.markError
  · exact h.unmark _
theorem mmcoShortToLong (d i : Nat) : Quiet s (u.mmcoShortToLong d i) := by
  unfold State.mmcoShortToLong; split
  · exact h.markError
  · split
    · exact h.markError
    · exact (h.unmark? _).makeLong _ _
theorem mmcoMaxLongIdx (p : Nat) : Quiet s (u.mmcoMaxLongIdx p) := by
  unfold State.mmcoMaxLongIdx; split
  · exact h.markError
  · exact (h.unmarkAll _).setMaxLong _
theorem mmcoAllUnused : Quiet s u.mmcoAllUnused := ((h.unmarkAll _).setMaxLong _).updCur _
theorem mmcoCurToLong (i : Nat) : Quiet s (u.mmcoCurToLong i) := by
  unfold State.mmcoCurToLong; split
  · exact h.markError
  · exact ((h.unmark? _).makeLong _ _).setWk _
end
end Quiet

/-- An operation that goes on to `u` went on to `t` only if they are the same. -/
theorem via {s u t : State} (h : (Host.Outcome.next u : Host.Outcome State Fault Refusal) = .next t) (q : Quiet s u) :
    Quiet s t := by
  cases h
  exact q

/-- Every operation but SRST goes on to a quiet state. -/
theorem exec_quiet (s t : State) (r : Quiet s s) : ∀ i : Instr, i ≠ .srst → exec i s = .next t → Quiet s t
  | .srst, hi, _ => absurd rfl hi
  | .nal, _, h => via h (r.startNalCmd)
  | .auEnd, _, h => via h (r.startAuEnd)
  | .release, _, h => via h (r.release)
  | .descU _, _, h => via h (r.readElem _)
  | .descF _, _, h => via h (r.readElem _)
  | .descUv _, _, h => via h (r.readElem _)
  | .descUe, _, h => via h (r.readElem _)
  | .descSe, _, h => via h (r.readElem _)
  | .descTe _, _, h => via h (r.readElem _)
  | .descMe _, _, h => via h (r.readElem _)
  | .descCe _, _, h => via h (r.parse _ _ fun _ _ ht => ht.setElem _ _)
  | .descAe _, _, h => via h (r.readElem _)
  | .nalType0 _, _, h => via h (r.startNal _ _)
  | .nalSlice _, _, h => via h (r.startSlice _ _)
  | .nalType2 _, _, h => via h (r.startNal _ _)
  | .nalType3 _, _, h => via h (r.startNal _ _)
  | .nalType4 _, _, h => via h (r.startNal _ _)
  | .nalIdr _, _, h => via h (r.startSlice _ _)
  | .nalType6 _, _, h => via h (r.startNal _ _)
  | .nalSps _, _, h => via h (r.nalSps _)
  | .nalPps _, _, h => via h (r.nalPps _)
  | .nalType9 _, _, h => via h (r.startNal _ _)
  | .nalType10 _, _, h => via h (r.startNal _ _)
  | .nalType11 _, _, h => via h (r.startNal _ _)
  | .nalType12 _, _, h => via h (r.startNal _ _)
  | .nalType13 _, _, h => via h (r.startNal _ _)
  | .nalType14 _, _, h => via h (r.startNal _ _)
  | .nalType15 _, _, h => via h (r.startNal _ _)
  | .nalType16 _, _, h => via h (r.startNal _ _)
  | .nalType17 _, _, h => via h (r.startNal _ _)
  | .nalType18 _, _, h => via h (r.startNal _ _)
  | .nalType19 _, _, h => via h (r.startNal _ _)
  | .nalType20 _, _, h => via h (r.startNal _ _)
  | .nalType21 _, _, h => via h (r.startNal _ _)
  | .nalType22 _, _, h => via h (r.startNal _ _)
  | .nalType23 _, _, h => via h (r.startNal _ _)
  | .nalType24 _, _, h => via h (r.startNal _ _)
  | .nalType25 _, _, h => via h (r.startNal _ _)
  | .nalType26 _, _, h => via h (r.startNal _ _)
  | .nalType27 _, _, h => via h (r.startNal _ _)
  | .nalType28 _, _, h => via h (r.startNal _ _)
  | .nalType29 _, _, h => via h (r.startNal _ _)
  | .nalType30 _, _, h => via h (r.startNal _ _)
  | .nalType31 _, _, h => via h (r.startNal _ _)
  | .nalForbidden _, _, h => via h (r.record _)
  | .rplmSub _, _, h => via h ((r.push _).rplmShort _ _)
  | .rplmAdd _, _, h => via h ((r.push _).rplmShort _ _)
  | .rplmLong _, _, h => via h ((r.push _).rplmMove _ _)
  | .rplmEnd, _, h => via h (r.rplmEnd)
  | .mmcoEnd, _, h => via h (r.finishMarking)
  | .mmcoShortUnused _, _, h => via h ((r.push _).mmcoShortUnused _)
  | .mmcoLongUnused _, _, h => via h ((r.push _).mmcoLongUnused _)
  | .mmcoShortToLong _ _, _, h => via h ((r.push _).mmcoShortToLong _ _)
  | .mmcoMaxLongIdx _, _, h => via h ((r.push _).mmcoMaxLongIdx _)
  | .mmcoAllUnused, _, h => via h ((r.push _).mmcoAllUnused)
  | .mmcoCurToLong _, _, h => via h ((r.push _).mmcoCurToLong _)
  | .sliceP, _, h => via h (r.updSl _)
  | .sliceB, _, h => via h (r.updSl _)
  | .sliceI, _, h => via h (r.updSl _)
  | .sliceSp, _, h => via h (r.updSl _)
  | .sliceSi, _, h => via h (r.updSl _)
  | .slicePAll, _, h => via h (r.updSl _)
  | .sliceBAll, _, h => via h (r.updSl _)
  | .sliceIAll, _, h => via h (r.updSl _)
  | .sliceSpAll, _, h => via h (r.updSl _)
  | .sliceSiAll, _, h => via h (r.updSl _)
  | .iNxN, _, h => via h (r.startMb _)
  | .i_16x16_0_0_0, _, h => via h (r.startMb _)
  | .i_16x16_1_0_0, _, h => via h (r.startMb _)
  | .i_16x16_2_0_0, _, h => via h (r.startMb _)
  | .i_16x16_3_0_0, _, h => via h (r.startMb _)
  | .i_16x16_0_1_0, _, h => via h (r.startMb _)
  | .i_16x16_1_1_0, _, h => via h (r.startMb _)
  | .i_16x16_2_1_0, _, h => via h (r.startMb _)
  | .i_16x16_3_1_0, _, h => via h (r.startMb _)
  | .i_16x16_0_2_0, _, h => via h (r.startMb _)
  | .i_16x16_1_2_0, _, h => via h (r.startMb _)
  | .i_16x16_2_2_0, _, h => via h (r.startMb _)
  | .i_16x16_3_2_0, _, h => via h (r.startMb _)
  | .i_16x16_0_0_1, _, h => via h (r.startMb _)
  | .i_16x16_1_0_1, _, h => via h (r.startMb _)
  | .i_16x16_2_0_1, _, h => via h (r.startMb _)
  | .i_16x16_3_0_1, _, h => via h (r.startMb _)
  | .i_16x16_0_1_1, _, h => via h (r.startMb _)
  | .i_16x16_1_1_1, _, h => via h (r.startMb _)
  | .i_16x16_2_1_1, _, h => via h (r.startMb _)
  | .i_16x16_3_1_1, _, h => via h (r.startMb _)
  | .i_16x16_0_2_1, _, h => via h (r.startMb _)
  | .i_16x16_1_2_1, _, h => via h (r.startMb _)
  | .i_16x16_2_2_1, _, h => via h (r.startMb _)
  | .i_16x16_3_2_1, _, h => via h (r.startMb _)
  | .iPcm, _, h => via h (r.startPcm)
  | .pL0_16x16, _, h => via h (r.startMb _)
  | .pL0L0_16x8, _, h => via h (r.startMb _)
  | .pL0L0_8x16, _, h => via h (r.startMb _)
  | .p8x8, _, h => via h (r.startMb _)
  | .p8x8ref0, _, h => via h (r.startMb _)
  | .pINxN, _, h => via h (r.startMb _)
  | .pI_16x16_0_0_0, _, h => via h (r.startMb _)
  | .pI_16x16_1_0_0, _, h => via h (r.startMb _)
  | .pI_16x16_2_0_0, _, h => via h (r.startMb _)
  | .pI_16x16_3_0_0, _, h => via h (r.startMb _)
  | .pI_16x16_0_1_0, _, h => via h (r.startMb _)
  | .pI_16x16_1_1_0, _, h => via h (r.startMb _)
  | .pI_16x16_2_1_0, _, h => via h (r.startMb _)
  | .pI_16x16_3_1_0, _, h => via h (r.startMb _)
  | .pI_16x16_0_2_0, _, h => via h (r.startMb _)
  | .pI_16x16_1_2_0, _, h => via h (r.startMb _)
  | .pI_16x16_2_2_0, _, h => via h (r.startMb _)
  | .pI_16x16_3_2_0, _, h => via h (r.startMb _)
  | .pI_16x16_0_0_1, _, h => via h (r.startMb _)
  | .pI_16x16_1_0_1, _, h => via h (r.startMb _)
  | .pI_16x16_2_0_1, _, h => via h (r.startMb _)
  | .pI_16x16_3_0_1, _, h => via h (r.startMb _)
  | .pI_16x16_0_1_1, _, h => via h (r.startMb _)
  | .pI_16x16_1_1_1, _, h => via h (r.startMb _)
  | .pI_16x16_2_1_1, _, h => via h (r.startMb _)
  | .pI_16x16_3_1_1, _, h => via h (r.startMb _)
  | .pI_16x16_0_2_1, _, h => via h (r.startMb _)
  | .pI_16x16_1_2_1, _, h => via h (r.startMb _)
  | .pI_16x16_2_2_1, _, h => via h (r.startMb _)
  | .pI_16x16_3_2_1, _, h => via h (r.startMb _)
  | .pIPcm, _, h => via h (r.startPcm)
  | .pSkip, _, h => via h (r.startSkip _)
  | .bDirect16x16, _, h => via h (r.startMb _)
  | .bL0_16x16, _, h => via h (r.startMb _)
  | .bL1_16x16, _, h => via h (r.startMb _)
  | .bBi_16x16, _, h => via h (r.startMb _)
  | .bL0L0_16x8, _, h => via h (r.startMb _)
  | .bL0L0_8x16, _, h => via h (r.startMb _)
  | .bL1L1_16x8, _, h => via h (r.startMb _)
  | .bL1L1_8x16, _, h => via h (r.startMb _)
  | .bL0L1_16x8, _, h => via h (r.startMb _)
  | .bL0L1_8x16, _, h => via h (r.startMb _)
  | .bL1L0_16x8, _, h => via h (r.startMb _)
  | .bL1L0_8x16, _, h => via h (r.startMb _)
  | .bL0Bi_16x8, _, h => via h (r.startMb _)
  | .bL0Bi_8x16, _, h => via h (r.startMb _)
  | .bL1Bi_16x8, _, h => via h (r.startMb _)
  | .bL1Bi_8x16, _, h => via h (r.startMb _)
  | .bBiL0_16x8, _, h => via h (r.startMb _)
  | .bBiL0_8x16, _, h => via h (r.startMb _)
  | .bBiL1_16x8, _, h => via h (r.startMb _)
  | .bBiL1_8x16, _, h => via h (r.startMb _)
  | .bBiBi_16x8, _, h => via h (r.startMb _)
  | .bBiBi_8x16, _, h => via h (r.startMb _)
  | .b8x8, _, h => via h (r.startMb _)
  | .bINxN, _, h => via h (r.startMb _)
  | .bI_16x16_0_0_0, _, h => via h (r.startMb _)
  | .bI_16x16_1_0_0, _, h => via h (r.startMb _)
  | .bI_16x16_2_0_0, _, h => via h (r.startMb _)
  | .bI_16x16_3_0_0, _, h => via h (r.startMb _)
  | .bI_16x16_0_1_0, _, h => via h (r.startMb _)
  | .bI_16x16_1_1_0, _, h => via h (r.startMb _)
  | .bI_16x16_2_1_0, _, h => via h (r.startMb _)
  | .bI_16x16_3_1_0, _, h => via h (r.startMb _)
  | .bI_16x16_0_2_0, _, h => via h (r.startMb _)
  | .bI_16x16_1_2_0, _, h => via h (r.startMb _)
  | .bI_16x16_2_2_0, _, h => via h (r.startMb _)
  | .bI_16x16_3_2_0, _, h => via h (r.startMb _)
  | .bI_16x16_0_0_1, _, h => via h (r.startMb _)
  | .bI_16x16_1_0_1, _, h => via h (r.startMb _)
  | .bI_16x16_2_0_1, _, h => via h (r.startMb _)
  | .bI_16x16_3_0_1, _, h => via h (r.startMb _)
  | .bI_16x16_0_1_1, _, h => via h (r.startMb _)
  | .bI_16x16_1_1_1, _, h => via h (r.startMb _)
  | .bI_16x16_2_1_1, _, h => via h (r.startMb _)
  | .bI_16x16_3_1_1, _, h => via h (r.startMb _)
  | .bI_16x16_0_2_1, _, h => via h (r.startMb _)
  | .bI_16x16_1_2_1, _, h => via h (r.startMb _)
  | .bI_16x16_2_2_1, _, h => via h (r.startMb _)
  | .bI_16x16_3_2_1, _, h => via h (r.startMb _)
  | .bIPcm, _, h => via h (r.startPcm)
  | .bSkip, _, h => via h (r.startSkip _)
  | .subPL0_8x8, _, h => via h (r.setSubType _)
  | .subPL0_8x4, _, h => via h (r.setSubType _)
  | .subPL0_4x8, _, h => via h (r.setSubType _)
  | .subPL0_4x4, _, h => via h (r.setSubType _)
  | .subBDirect_8x8, _, h => via h (r.setSubType _)
  | .subBL0_8x8, _, h => via h (r.setSubType _)
  | .subBL1_8x8, _, h => via h (r.setSubType _)
  | .subBBi_8x8, _, h => via h (r.setSubType _)
  | .subBL0_8x4, _, h => via h (r.setSubType _)
  | .subBL0_4x8, _, h => via h (r.setSubType _)
  | .subBL1_8x4, _, h => via h (r.setSubType _)
  | .subBL1_4x8, _, h => via h (r.setSubType _)
  | .subBBi_8x4, _, h => via h (r.setSubType _)
  | .subBBi_4x8, _, h => via h (r.setSubType _)
  | .subBL0_4x4, _, h => via h (r.setSubType _)
  | .subBL1_4x4, _, h => via h (r.setSubType _)
  | .subBBi_4x4, _, h => via h (r.setSubType _)
  | .intra4x4Vertical, _, h => via h (r.intra4x4 _ _)
  | .intra4x4Horizontal, _, h => via h (r.intra4x4 _ _)
  | .intra4x4Dc, _, h => via h (r.intra4x4 _ _)
  | .intra4x4DiagDownLeft, _, h => via h (r.intra4x4 _ _)
  | .intra4x4DiagDownRight, _, h => via h (r.intra4x4 _ _)
  | .intra4x4VerticalRight, _, h => via h (r.intra4x4 _ _)
  | .intra4x4HorizontalDown, _, h => via h (r.intra4x4 _ _)
  | .intra4x4VerticalLeft, _, h => via h (r.intra4x4 _ _)
  | .intra4x4HorizontalUp, _, h => via h (r.intra4x4 _ _)
  | .intra8x8Vertical, _, h => via h (r.intra8x8 _ _)
  | .intra8x8Horizontal, _, h => via h (r.intra8x8 _ _)
  | .intra8x8Dc, _, h => via h (r.intra8x8 _ _)
  | .intra8x8DiagDownLeft, _, h => via h (r.intra8x8 _ _)
  | .intra8x8DiagDownRight, _, h => via h (r.intra8x8 _ _)
  | .intra8x8VerticalRight, _, h => via h (r.intra8x8 _ _)
  | .intra8x8HorizontalDown, _, h => via h (r.intra8x8 _ _)
  | .intra8x8VerticalLeft, _, h => via h (r.intra8x8 _ _)
  | .intra8x8HorizontalUp, _, h => via h (r.intra8x8 _ _)
  | .intra16x16Vertical, _, h => via h (r.intra16x16 _ _)
  | .intra16x16Horizontal, _, h => via h (r.intra16x16 _ _)
  | .intra16x16Dc, _, h => via h (r.intra16x16 _ _)
  | .intra16x16Plane, _, h => via h (r.intra16x16 _ _)
  | .chromaDc, _, h => via h (r.intraChroma _ _)
  | .chromaHorizontal, _, h => via h (r.intraChroma _ _)
  | .chromaVertical, _, h => via h (r.intraChroma _ _)
  | .chromaPlane, _, h => via h (r.intraChroma _ _)
  | .qpel00G, _, h => via h (r.predLumaBlock _)
  | .qpel01d, _, h => via h (r.predLumaBlock _)
  | .qpel02h, _, h => via h (r.predLumaBlock _)
  | .qpel03n, _, h => via h (r.predLumaBlock _)
  | .qpel10a, _, h => via h (r.predLumaBlock _)
  | .qpel11e, _, h => via h (r.predLumaBlock _)
  | .qpel12i, _, h => via h (r.predLumaBlock _)
  | .qpel13p, _, h => via h (r.predLumaBlock _)
  | .qpel20b, _, h => via h (r.predLumaBlock _)
  | .qpel21f, _, h => via h (r.predLumaBlock _)
  | .qpel22j, _, h => via h (r.predLumaBlock _)
  | .qpel23q, _, h => via h (r.predLumaBlock _)
  | .qpel30c, _, h => via h (r.predLumaBlock _)
  | .qpel31g, _, h => via h (r.predLumaBlock _)
  | .qpel32k, _, h => via h (r.predLumaBlock _)
  | .qpel33r, _, h => via h (r.predLumaBlock _)
  | .cpel00, _, h => via h (r.predChromaBlock _ _)
  | .cpel01, _, h => via h (r.predChromaBlock _ _)
  | .cpel02, _, h => via h (r.predChromaBlock _ _)
  | .cpel03, _, h => via h (r.predChromaBlock _ _)
  | .cpel04, _, h => via h (r.predChromaBlock _ _)
  | .cpel05, _, h => via h (r.predChromaBlock _ _)
  | .cpel06, _, h => via h (r.predChromaBlock _ _)
  | .cpel07, _, h => via h (r.predChromaBlock _ _)
  | .cpel10, _, h => via h (r.predChromaBlock _ _)
  | .cpel11, _, h => via h (r.predChromaBlock _ _)
  | .cpel12, _, h => via h (r.predChromaBlock _ _)
  | .cpel13, _, h => via h (r.predChromaBlock _ _)
  | .cpel14, _, h => via h (r.predChromaBlock _ _)
  | .cpel15, _, h => via h (r.predChromaBlock _ _)
  | .cpel16, _, h => via h (r.predChromaBlock _ _)
  | .cpel17, _, h => via h (r.predChromaBlock _ _)
  | .cpel20, _, h => via h (r.predChromaBlock _ _)
  | .cpel21, _, h => via h (r.predChromaBlock _ _)
  | .cpel22, _, h => via h (r.predChromaBlock _ _)
  | .cpel23, _, h => via h (r.predChromaBlock _ _)
  | .cpel24, _, h => via h (r.predChromaBlock _ _)
  | .cpel25, _, h => via h (r.predChromaBlock _ _)
  | .cpel26, _, h => via h (r.predChromaBlock _ _)
  | .cpel27, _, h => via h (r.predChromaBlock _ _)
  | .cpel30, _, h => via h (r.predChromaBlock _ _)
  | .cpel31, _, h => via h (r.predChromaBlock _ _)
  | .cpel32, _, h => via h (r.predChromaBlock _ _)
  | .cpel33, _, h => via h (r.predChromaBlock _ _)
  | .cpel34, _, h => via h (r.predChromaBlock _ _)
  | .cpel35, _, h => via h (r.predChromaBlock _ _)
  | .cpel36, _, h => via h (r.predChromaBlock _ _)
  | .cpel37, _, h => via h (r.predChromaBlock _ _)
  | .cpel40, _, h => via h (r.predChromaBlock _ _)
  | .cpel41, _, h => via h (r.predChromaBlock _ _)
  | .cpel42, _, h => via h (r.predChromaBlock _ _)
  | .cpel43, _, h => via h (r.predChromaBlock _ _)
  | .cpel44, _, h => via h (r.predChromaBlock _ _)
  | .cpel45, _, h => via h (r.predChromaBlock _ _)
  | .cpel46, _, h => via h (r.predChromaBlock _ _)
  | .cpel47, _, h => via h (r.predChromaBlock _ _)
  | .cpel50, _, h => via h (r.predChromaBlock _ _)
  | .cpel51, _, h => via h (r.predChromaBlock _ _)
  | .cpel52, _, h => via h (r.predChromaBlock _ _)
  | .cpel53, _, h => via h (r.predChromaBlock _ _)
  | .cpel54, _, h => via h (r.predChromaBlock _ _)
  | .cpel55, _, h => via h (r.predChromaBlock _ _)
  | .cpel56, _, h => via h (r.predChromaBlock _ _)
  | .cpel57, _, h => via h (r.predChromaBlock _ _)
  | .cpel60, _, h => via h (r.predChromaBlock _ _)
  | .cpel61, _, h => via h (r.predChromaBlock _ _)
  | .cpel62, _, h => via h (r.predChromaBlock _ _)
  | .cpel63, _, h => via h (r.predChromaBlock _ _)
  | .cpel64, _, h => via h (r.predChromaBlock _ _)
  | .cpel65, _, h => via h (r.predChromaBlock _ _)
  | .cpel66, _, h => via h (r.predChromaBlock _ _)
  | .cpel67, _, h => via h (r.predChromaBlock _ _)
  | .cpel70, _, h => via h (r.predChromaBlock _ _)
  | .cpel71, _, h => via h (r.predChromaBlock _ _)
  | .cpel72, _, h => via h (r.predChromaBlock _ _)
  | .cpel73, _, h => via h (r.predChromaBlock _ _)
  | .cpel74, _, h => via h (r.predChromaBlock _ _)
  | .cpel75, _, h => via h (r.predChromaBlock _ _)
  | .cpel76, _, h => via h (r.predChromaBlock _ _)
  | .cpel77, _, h => via h (r.predChromaBlock _ _)
  | .idct4x4, _, h => via h (r.setWk _)
  | .dequantBranches, _, h => via h (r.setWk _)
  | .lumaDc4x4, _, h => via h (r.setWk _)
  | .chromaDc2x2, _, h => via h (r.setWk _)
  | .chromaAc, _, h => via h ((r.setWk _).setWk _)
  | .idct8x8, _, h => via h (r.setWk _)
  | .reconClip, _, h => via h (r.setMb _)
  | .zeroBlock, _, h => via h (r.setWk _)
  | .dcOnly4x4, _, h => via h (r.setWk _)
  | .sgmap0Interleaved, _, h => via h (r.buildMap _)
  | .sgmap1Dispersed, _, h => via h (r.buildMap _)
  | .sgmap2Foreground, _, h => via h (r.buildMap _)
  | .sgmap3BoxOut, _, h => via h (r.buildMap _)
  | .sgmap4Raster, _, h => via h (r.buildMap _)
  | .sgmap5Wipe, _, h => via h (r.buildMap _)
  | .sgmap6Explicit, _, h => via h (r.buildMap _)
  | .pocType0, _, h => via h (r.computePoc _)
  | .pocType1, _, h => via h (r.computePoc _)
  | .pocType2, _, h => via h (r.computePoc _)

end Sys2Proof.Machine
end

