-- ==== Sys2Proof/Laws/PerInstr.lean ====
section
/-! SUPPORT. The family `Encoding`: for each constructor, the bits of a well-formed instruction are read back as it. -/

namespace Sys2Proof.Laws

open Sys2Proof

/-- A well-formed instruction's bits are exactly one code of its space, and that code is the instruction. -/
def Encoding.Statement (i : Instr) : Prop :=
  WellFormed i = true → decode (spaceOf i) (encode i) = .ok i (encode i).length

theorem ueDecode_self (v : Nat) (h : v < 2 ^ 32 - 1) : ueDecode (ueEncode v) = .ok v (ueEncode v).length := by
  simpa using ueDecode_ueEncode v [] h

theorem ueValue_lt {v : Nat} (h : ueValue v = true) : v < 2 ^ 32 - 1 := of_decide_eq_true h

theorem drop_code (c v : Nat) (r : List Bool) : (ueEncode c ++ (ueEncode v ++ r)).drop (ueEncode c).length = ueEncode v ++ r := by
  simp

/-- A modification or marking code with one operand. -/
theorem one_operand (f : Nat → Instr) (c v : Nat) (hc : c < 2 ^ 32 - 1) (h : v < 2 ^ 32 - 1) :
    ((ueDecode (ueEncode c ++ ueEncode v)).thenRead fun _ n => (ueDecode ((ueEncode c ++ ueEncode v).drop n)).map f)
      = .ok (f v) (ueEncode c ++ ueEncode v).length := by
  rw [ueDecode_ueEncode c _ hc]
  have := drop_code c v []
  simp only [List.append_nil] at this
  simp only [CodeRes.thenRead, this, ueDecode_self v h, CodeRes.map, List.length_append]

theorem Encoding.srst : Encoding.Statement .srst := fun _ => by decide
theorem Encoding.nal : Encoding.Statement .nal := fun _ => by decide
theorem Encoding.auEnd : Encoding.Statement .auEnd := fun _ => by decide
theorem Encoding.release : Encoding.Statement .release := fun _ => by decide
theorem Encoding.descU (n : Nat) : Encoding.Statement (.descU n) := fun _ => rfl
theorem Encoding.descF (n : Nat) : Encoding.Statement (.descF n) := fun _ => rfl
theorem Encoding.descUv (n : Nat) : Encoding.Statement (.descUv n) := fun _ => rfl
theorem Encoding.descUe : Encoding.Statement .descUe := fun _ => by decide
theorem Encoding.descSe : Encoding.Statement .descSe := fun _ => by decide
theorem Encoding.descTe (cMax : Nat) : Encoding.Statement (.descTe cMax) := fun _ => rfl
theorem Encoding.descMe (intra : Bool) : Encoding.Statement (.descMe intra) := fun _ => rfl
theorem Encoding.descCe (e : CeElem) : Encoding.Statement (.descCe e) := fun _ => rfl
theorem Encoding.descAe (e : AeElem) : Encoding.Statement (.descAe e) := fun _ => rfl
theorem Encoding.nalType0 (refIdc : BitVec 2) : Encoding.Statement (.nalType0 refIdc) := fun _ => by revert refIdc; decide
theorem Encoding.nalSlice (refIdc : BitVec 2) : Encoding.Statement (.nalSlice refIdc) := fun _ => by revert refIdc; decide
theorem Encoding.nalType2 (refIdc : BitVec 2) : Encoding.Statement (.nalType2 refIdc) := fun _ => by revert refIdc; decide
theorem Encoding.nalType3 (refIdc : BitVec 2) : Encoding.Statement (.nalType3 refIdc) := fun _ => by revert refIdc; decide
theorem Encoding.nalType4 (refIdc : BitVec 2) : Encoding.Statement (.nalType4 refIdc) := fun _ => by revert refIdc; decide
theorem Encoding.nalIdr (refIdc : BitVec 2) : Encoding.Statement (.nalIdr refIdc) := fun _ => by revert refIdc; decide
theorem Encoding.nalType6 (refIdc : BitVec 2) : Encoding.Statement (.nalType6 refIdc) := fun _ => by revert refIdc; decide
theorem Encoding.nalSps (refIdc : BitVec 2) : Encoding.Statement (.nalSps refIdc) := fun _ => by revert refIdc; decide
theorem Encoding.nalPps (refIdc : BitVec 2) : Encoding.Statement (.nalPps refIdc) := fun _ => by revert refIdc; decide
theorem Encoding.nalType9 (refIdc : BitVec 2) : Encoding.Statement (.nalType9 refIdc) := fun _ => by revert refIdc; decide
theorem Encoding.nalType10 (refIdc : BitVec 2) : Encoding.Statement (.nalType10 refIdc) := fun _ => by revert refIdc; decide
theorem Encoding.nalType11 (refIdc : BitVec 2) : Encoding.Statement (.nalType11 refIdc) := fun _ => by revert refIdc; decide
theorem Encoding.nalType12 (refIdc : BitVec 2) : Encoding.Statement (.nalType12 refIdc) := fun _ => by revert refIdc; decide
theorem Encoding.nalType13 (refIdc : BitVec 2) : Encoding.Statement (.nalType13 refIdc) := fun _ => by revert refIdc; decide
theorem Encoding.nalType14 (refIdc : BitVec 2) : Encoding.Statement (.nalType14 refIdc) := fun _ => by revert refIdc; decide
theorem Encoding.nalType15 (refIdc : BitVec 2) : Encoding.Statement (.nalType15 refIdc) := fun _ => by revert refIdc; decide
theorem Encoding.nalType16 (refIdc : BitVec 2) : Encoding.Statement (.nalType16 refIdc) := fun _ => by revert refIdc; decide
theorem Encoding.nalType17 (refIdc : BitVec 2) : Encoding.Statement (.nalType17 refIdc) := fun _ => by revert refIdc; decide
theorem Encoding.nalType18 (refIdc : BitVec 2) : Encoding.Statement (.nalType18 refIdc) := fun _ => by revert refIdc; decide
theorem Encoding.nalType19 (refIdc : BitVec 2) : Encoding.Statement (.nalType19 refIdc) := fun _ => by revert refIdc; decide
theorem Encoding.nalType20 (refIdc : BitVec 2) : Encoding.Statement (.nalType20 refIdc) := fun _ => by revert refIdc; decide
theorem Encoding.nalType21 (refIdc : BitVec 2) : Encoding.Statement (.nalType21 refIdc) := fun _ => by revert refIdc; decide
theorem Encoding.nalType22 (refIdc : BitVec 2) : Encoding.Statement (.nalType22 refIdc) := fun _ => by revert refIdc; decide
theorem Encoding.nalType23 (refIdc : BitVec 2) : Encoding.Statement (.nalType23 refIdc) := fun _ => by revert refIdc; decide
theorem Encoding.nalType24 (refIdc : BitVec 2) : Encoding.Statement (.nalType24 refIdc) := fun _ => by revert refIdc; decide
theorem Encoding.nalType25 (refIdc : BitVec 2) : Encoding.Statement (.nalType25 refIdc) := fun _ => by revert refIdc; decide
theorem Encoding.nalType26 (refIdc : BitVec 2) : Encoding.Statement (.nalType26 refIdc) := fun _ => by revert refIdc; decide
theorem Encoding.nalType27 (refIdc : BitVec 2) : Encoding.Statement (.nalType27 refIdc) := fun _ => by revert refIdc; decide
theorem Encoding.nalType28 (refIdc : BitVec 2) : Encoding.Statement (.nalType28 refIdc) := fun _ => by revert refIdc; decide
theorem Encoding.nalType29 (refIdc : BitVec 2) : Encoding.Statement (.nalType29 refIdc) := fun _ => by revert refIdc; decide
theorem Encoding.nalType30 (refIdc : BitVec 2) : Encoding.Statement (.nalType30 refIdc) := fun _ => by revert refIdc; decide
theorem Encoding.nalType31 (refIdc : BitVec 2) : Encoding.Statement (.nalType31 refIdc) := fun _ => by revert refIdc; decide
theorem Encoding.nalForbidden (rest : BitVec 7) : Encoding.Statement (.nalForbidden rest) := fun _ => by revert rest; decide
theorem Encoding.rplmSub (v : Nat) : Encoding.Statement (.rplmSub v) := fun h => by
  have e : encode (.rplmSub v) = ueEncode 0 ++ ueEncode v := rfl
  rw [e, ← one_operand .rplmSub 0 v (by decide) (ueValue_lt h)]
  show rplmDecode _ = _
  unfold rplmDecode
  rw [ueDecode_ueEncode 0 _ (by decide)]
  rfl
theorem Encoding.rplmAdd (v : Nat) : Encoding.Statement (.rplmAdd v) := fun h => by
  have e : encode (.rplmAdd v) = ueEncode 1 ++ ueEncode v := rfl
  rw [e, ← one_operand .rplmAdd 1 v (by decide) (ueValue_lt h)]
  show rplmDecode _ = _
  unfold rplmDecode
  rw [ueDecode_ueEncode 1 _ (by decide)]
  rfl
theorem Encoding.rplmLong (v : Nat) : Encoding.Statement (.rplmLong v) := fun h => by
  have e : encode (.rplmLong v) = ueEncode 2 ++ ueEncode v := rfl
  rw [e, ← one_operand .rplmLong 2 v (by decide) (ueValue_lt h)]
  show rplmDecode _ = _
  unfold rplmDecode
  rw [ueDecode_ueEncode 2 _ (by decide)]
  rfl
theorem Encoding.rplmEnd : Encoding.Statement .rplmEnd := fun _ => by decide
theorem Encoding.mmcoEnd : Encoding.Statement .mmcoEnd := fun _ => by decide
theorem Encoding.mmcoShortUnused (diff : Nat) : Encoding.Statement (.mmcoShortUnused diff) := fun h => by
  have e : encode (.mmcoShortUnused diff) = ueEncode 1 ++ ueEncode diff := rfl
  rw [e, ← one_operand .mmcoShortUnused 1 diff (by decide) (ueValue_lt h)]
  show mmcoDecode _ = _
  unfold mmcoDecode
  rw [ueDecode_ueEncode 1 _ (by decide)]
  rfl
theorem Encoding.mmcoLongUnused (num : Nat) : Encoding.Statement (.mmcoLongUnused num) := fun h => by
  have e : encode (.mmcoLongUnused num) = ueEncode 2 ++ ueEncode num := rfl
  rw [e, ← one_operand .mmcoLongUnused 2 num (by decide) (ueValue_lt h)]
  show mmcoDecode _ = _
  unfold mmcoDecode
  rw [ueDecode_ueEncode 2 _ (by decide)]
  rfl
theorem Encoding.mmcoShortToLong (diff idx : Nat) : Encoding.Statement (.mmcoShortToLong diff idx) := fun h => by
  simp only [WellFormed, Bool.and_eq_true] at h
  have hd := ueValue_lt h.1
  have hi := ueValue_lt h.2
  have e : encode (.mmcoShortToLong diff idx) = ueEncode 3 ++ (ueEncode diff ++ ueEncode idx) := rfl
  have e2 : (ueEncode 3 ++ (ueEncode diff ++ ueEncode idx)).drop ((ueEncode 3).length + (ueEncode diff).length) = ueEncode idx := by
    rw [← List.append_assoc]
    simp only [← List.length_append, List.drop_left]
  rw [e]
  show mmcoDecode _ = _
  unfold mmcoDecode
  rw [ueDecode_ueEncode 3 _ (by decide)]
  simp only [CodeRes.thenRead, List.drop_left, e2, ueDecode_ueEncode diff _ hd, ueDecode_self idx hi, CodeRes.map, List.length_append]
theorem Encoding.mmcoMaxLongIdx (plus1 : Nat) : Encoding.Statement (.mmcoMaxLongIdx plus1) := fun h => by
  have e : encode (.mmcoMaxLongIdx plus1) = ueEncode 4 ++ ueEncode plus1 := rfl
  rw [e, ← one_operand .mmcoMaxLongIdx 4 plus1 (by decide) (ueValue_lt h)]
  show mmcoDecode _ = _
  unfold mmcoDecode
  rw [ueDecode_ueEncode 4 _ (by decide)]
  rfl
theorem Encoding.mmcoAllUnused : Encoding.Statement .mmcoAllUnused := fun _ => by decide
theorem Encoding.mmcoCurToLong (idx : Nat) : Encoding.Statement (.mmcoCurToLong idx) := fun h => by
  have e : encode (.mmcoCurToLong idx) = ueEncode 6 ++ ueEncode idx := rfl
  rw [e, ← one_operand .mmcoCurToLong 6 idx (by decide) (ueValue_lt h)]
  show mmcoDecode _ = _
  unfold mmcoDecode
  rw [ueDecode_ueEncode 6 _ (by decide)]
  rfl
theorem Encoding.sliceP : Encoding.Statement .sliceP := fun _ => by decide
theorem Encoding.sliceB : Encoding.Statement .sliceB := fun _ => by decide
theorem Encoding.sliceI : Encoding.Statement .sliceI := fun _ => by decide
theorem Encoding.sliceSp : Encoding.Statement .sliceSp := fun _ => by decide
theorem Encoding.sliceSi : Encoding.Statement .sliceSi := fun _ => by decide
theorem Encoding.slicePAll : Encoding.Statement .slicePAll := fun _ => by decide
theorem Encoding.sliceBAll : Encoding.Statement .sliceBAll := fun _ => by decide
theorem Encoding.sliceIAll : Encoding.Statement .sliceIAll := fun _ => by decide
theorem Encoding.sliceSpAll : Encoding.Statement .sliceSpAll := fun _ => by decide
theorem Encoding.sliceSiAll : Encoding.Statement .sliceSiAll := fun _ => by decide
theorem Encoding.iNxN : Encoding.Statement .iNxN := fun _ => by decide
theorem Encoding.i_16x16_0_0_0 : Encoding.Statement .i_16x16_0_0_0 := fun _ => by decide
theorem Encoding.i_16x16_1_0_0 : Encoding.Statement .i_16x16_1_0_0 := fun _ => by decide
theorem Encoding.i_16x16_2_0_0 : Encoding.Statement .i_16x16_2_0_0 := fun _ => by decide
theorem Encoding.i_16x16_3_0_0 : Encoding.Statement .i_16x16_3_0_0 := fun _ => by decide
theorem Encoding.i_16x16_0_1_0 : Encoding.Statement .i_16x16_0_1_0 := fun _ => by decide
theorem Encoding.i_16x16_1_1_0 : Encoding.Statement .i_16x16_1_1_0 := fun _ => by decide
theorem Encoding.i_16x16_2_1_0 : Encoding.Statement .i_16x16_2_1_0 := fun _ => by decide
theorem Encoding.i_16x16_3_1_0 : Encoding.Statement .i_16x16_3_1_0 := fun _ => by decide
theorem Encoding.i_16x16_0_2_0 : Encoding.Statement .i_16x16_0_2_0 := fun _ => by decide
theorem Encoding.i_16x16_1_2_0 : Encoding.Statement .i_16x16_1_2_0 := fun _ => by decide
theorem Encoding.i_16x16_2_2_0 : Encoding.Statement .i_16x16_2_2_0 := fun _ => by decide
theorem Encoding.i_16x16_3_2_0 : Encoding.Statement .i_16x16_3_2_0 := fun _ => by decide
theorem Encoding.i_16x16_0_0_1 : Encoding.Statement .i_16x16_0_0_1 := fun _ => by decide
theorem Encoding.i_16x16_1_0_1 : Encoding.Statement .i_16x16_1_0_1 := fun _ => by decide
theorem Encoding.i_16x16_2_0_1 : Encoding.Statement .i_16x16_2_0_1 := fun _ => by decide
theorem Encoding.i_16x16_3_0_1 : Encoding.Statement .i_16x16_3_0_1 := fun _ => by decide
theorem Encoding.i_16x16_0_1_1 : Encoding.Statement .i_16x16_0_1_1 := fun _ => by decide
theorem Encoding.i_16x16_1_1_1 : Encoding.Statement .i_16x16_1_1_1 := fun _ => by decide
theorem Encoding.i_16x16_2_1_1 : Encoding.Statement .i_16x16_2_1_1 := fun _ => by decide
theorem Encoding.i_16x16_3_1_1 : Encoding.Statement .i_16x16_3_1_1 := fun _ => by decide
theorem Encoding.i_16x16_0_2_1 : Encoding.Statement .i_16x16_0_2_1 := fun _ => by decide
theorem Encoding.i_16x16_1_2_1 : Encoding.Statement .i_16x16_1_2_1 := fun _ => by decide
theorem Encoding.i_16x16_2_2_1 : Encoding.Statement .i_16x16_2_2_1 := fun _ => by decide
theorem Encoding.i_16x16_3_2_1 : Encoding.Statement .i_16x16_3_2_1 := fun _ => by decide
theorem Encoding.iPcm : Encoding.Statement .iPcm := fun _ => by decide
theorem Encoding.pL0_16x16 : Encoding.Statement .pL0_16x16 := fun _ => by decide
theorem Encoding.pL0L0_16x8 : Encoding.Statement .pL0L0_16x8 := fun _ => by decide
theorem Encoding.pL0L0_8x16 : Encoding.Statement .pL0L0_8x16 := fun _ => by decide
theorem Encoding.p8x8 : Encoding.Statement .p8x8 := fun _ => by decide
theorem Encoding.p8x8ref0 : Encoding.Statement .p8x8ref0 := fun _ => by decide
theorem Encoding.pINxN : Encoding.Statement .pINxN := fun _ => by decide
theorem Encoding.pI_16x16_0_0_0 : Encoding.Statement .pI_16x16_0_0_0 := fun _ => by decide
theorem Encoding.pI_16x16_1_0_0 : Encoding.Statement .pI_16x16_1_0_0 := fun _ => by decide
theorem Encoding.pI_16x16_2_0_0 : Encoding.Statement .pI_16x16_2_0_0 := fun _ => by decide
theorem Encoding.pI_16x16_3_0_0 : Encoding.Statement .pI_16x16_3_0_0 := fun _ => by decide
theorem Encoding.pI_16x16_0_1_0 : Encoding.Statement .pI_16x16_0_1_0 := fun _ => by decide
theorem Encoding.pI_16x16_1_1_0 : Encoding.Statement .pI_16x16_1_1_0 := fun _ => by decide
theorem Encoding.pI_16x16_2_1_0 : Encoding.Statement .pI_16x16_2_1_0 := fun _ => by decide
theorem Encoding.pI_16x16_3_1_0 : Encoding.Statement .pI_16x16_3_1_0 := fun _ => by decide
theorem Encoding.pI_16x16_0_2_0 : Encoding.Statement .pI_16x16_0_2_0 := fun _ => by decide
theorem Encoding.pI_16x16_1_2_0 : Encoding.Statement .pI_16x16_1_2_0 := fun _ => by decide
theorem Encoding.pI_16x16_2_2_0 : Encoding.Statement .pI_16x16_2_2_0 := fun _ => by decide
theorem Encoding.pI_16x16_3_2_0 : Encoding.Statement .pI_16x16_3_2_0 := fun _ => by decide
theorem Encoding.pI_16x16_0_0_1 : Encoding.Statement .pI_16x16_0_0_1 := fun _ => by decide
theorem Encoding.pI_16x16_1_0_1 : Encoding.Statement .pI_16x16_1_0_1 := fun _ => by decide
theorem Encoding.pI_16x16_2_0_1 : Encoding.Statement .pI_16x16_2_0_1 := fun _ => by decide
theorem Encoding.pI_16x16_3_0_1 : Encoding.Statement .pI_16x16_3_0_1 := fun _ => by decide
theorem Encoding.pI_16x16_0_1_1 : Encoding.Statement .pI_16x16_0_1_1 := fun _ => by decide
theorem Encoding.pI_16x16_1_1_1 : Encoding.Statement .pI_16x16_1_1_1 := fun _ => by decide
theorem Encoding.pI_16x16_2_1_1 : Encoding.Statement .pI_16x16_2_1_1 := fun _ => by decide
theorem Encoding.pI_16x16_3_1_1 : Encoding.Statement .pI_16x16_3_1_1 := fun _ => by decide
theorem Encoding.pI_16x16_0_2_1 : Encoding.Statement .pI_16x16_0_2_1 := fun _ => by decide
theorem Encoding.pI_16x16_1_2_1 : Encoding.Statement .pI_16x16_1_2_1 := fun _ => by decide
theorem Encoding.pI_16x16_2_2_1 : Encoding.Statement .pI_16x16_2_2_1 := fun _ => by decide
theorem Encoding.pI_16x16_3_2_1 : Encoding.Statement .pI_16x16_3_2_1 := fun _ => by decide
theorem Encoding.pIPcm : Encoding.Statement .pIPcm := fun _ => by decide
theorem Encoding.pSkip : Encoding.Statement .pSkip := fun _ => by decide
theorem Encoding.bDirect16x16 : Encoding.Statement .bDirect16x16 := fun _ => by decide
theorem Encoding.bL0_16x16 : Encoding.Statement .bL0_16x16 := fun _ => by decide
theorem Encoding.bL1_16x16 : Encoding.Statement .bL1_16x16 := fun _ => by decide
theorem Encoding.bBi_16x16 : Encoding.Statement .bBi_16x16 := fun _ => by decide
theorem Encoding.bL0L0_16x8 : Encoding.Statement .bL0L0_16x8 := fun _ => by decide
theorem Encoding.bL0L0_8x16 : Encoding.Statement .bL0L0_8x16 := fun _ => by decide
theorem Encoding.bL1L1_16x8 : Encoding.Statement .bL1L1_16x8 := fun _ => by decide
theorem Encoding.bL1L1_8x16 : Encoding.Statement .bL1L1_8x16 := fun _ => by decide
theorem Encoding.bL0L1_16x8 : Encoding.Statement .bL0L1_16x8 := fun _ => by decide
theorem Encoding.bL0L1_8x16 : Encoding.Statement .bL0L1_8x16 := fun _ => by decide
theorem Encoding.bL1L0_16x8 : Encoding.Statement .bL1L0_16x8 := fun _ => by decide
theorem Encoding.bL1L0_8x16 : Encoding.Statement .bL1L0_8x16 := fun _ => by decide
theorem Encoding.bL0Bi_16x8 : Encoding.Statement .bL0Bi_16x8 := fun _ => by decide
theorem Encoding.bL0Bi_8x16 : Encoding.Statement .bL0Bi_8x16 := fun _ => by decide
theorem Encoding.bL1Bi_16x8 : Encoding.Statement .bL1Bi_16x8 := fun _ => by decide
theorem Encoding.bL1Bi_8x16 : Encoding.Statement .bL1Bi_8x16 := fun _ => by decide
theorem Encoding.bBiL0_16x8 : Encoding.Statement .bBiL0_16x8 := fun _ => by decide
theorem Encoding.bBiL0_8x16 : Encoding.Statement .bBiL0_8x16 := fun _ => by decide
theorem Encoding.bBiL1_16x8 : Encoding.Statement .bBiL1_16x8 := fun _ => by decide
theorem Encoding.bBiL1_8x16 : Encoding.Statement .bBiL1_8x16 := fun _ => by decide
theorem Encoding.bBiBi_16x8 : Encoding.Statement .bBiBi_16x8 := fun _ => by decide
theorem Encoding.bBiBi_8x16 : Encoding.Statement .bBiBi_8x16 := fun _ => by decide
theorem Encoding.b8x8 : Encoding.Statement .b8x8 := fun _ => by decide
theorem Encoding.bINxN : Encoding.Statement .bINxN := fun _ => by decide
theorem Encoding.bI_16x16_0_0_0 : Encoding.Statement .bI_16x16_0_0_0 := fun _ => by decide
theorem Encoding.bI_16x16_1_0_0 : Encoding.Statement .bI_16x16_1_0_0 := fun _ => by decide
theorem Encoding.bI_16x16_2_0_0 : Encoding.Statement .bI_16x16_2_0_0 := fun _ => by decide
theorem Encoding.bI_16x16_3_0_0 : Encoding.Statement .bI_16x16_3_0_0 := fun _ => by decide
theorem Encoding.bI_16x16_0_1_0 : Encoding.Statement .bI_16x16_0_1_0 := fun _ => by decide
theorem Encoding.bI_16x16_1_1_0 : Encoding.Statement .bI_16x16_1_1_0 := fun _ => by decide
theorem Encoding.bI_16x16_2_1_0 : Encoding.Statement .bI_16x16_2_1_0 := fun _ => by decide
theorem Encoding.bI_16x16_3_1_0 : Encoding.Statement .bI_16x16_3_1_0 := fun _ => by decide
theorem Encoding.bI_16x16_0_2_0 : Encoding.Statement .bI_16x16_0_2_0 := fun _ => by decide
theorem Encoding.bI_16x16_1_2_0 : Encoding.Statement .bI_16x16_1_2_0 := fun _ => by decide
theorem Encoding.bI_16x16_2_2_0 : Encoding.Statement .bI_16x16_2_2_0 := fun _ => by decide
theorem Encoding.bI_16x16_3_2_0 : Encoding.Statement .bI_16x16_3_2_0 := fun _ => by decide
theorem Encoding.bI_16x16_0_0_1 : Encoding.Statement .bI_16x16_0_0_1 := fun _ => by decide
theorem Encoding.bI_16x16_1_0_1 : Encoding.Statement .bI_16x16_1_0_1 := fun _ => by decide
theorem Encoding.bI_16x16_2_0_1 : Encoding.Statement .bI_16x16_2_0_1 := fun _ => by decide
theorem Encoding.bI_16x16_3_0_1 : Encoding.Statement .bI_16x16_3_0_1 := fun _ => by decide
theorem Encoding.bI_16x16_0_1_1 : Encoding.Statement .bI_16x16_0_1_1 := fun _ => by decide
theorem Encoding.bI_16x16_1_1_1 : Encoding.Statement .bI_16x16_1_1_1 := fun _ => by decide
theorem Encoding.bI_16x16_2_1_1 : Encoding.Statement .bI_16x16_2_1_1 := fun _ => by decide
theorem Encoding.bI_16x16_3_1_1 : Encoding.Statement .bI_16x16_3_1_1 := fun _ => by decide
theorem Encoding.bI_16x16_0_2_1 : Encoding.Statement .bI_16x16_0_2_1 := fun _ => by decide
theorem Encoding.bI_16x16_1_2_1 : Encoding.Statement .bI_16x16_1_2_1 := fun _ => by decide
theorem Encoding.bI_16x16_2_2_1 : Encoding.Statement .bI_16x16_2_2_1 := fun _ => by decide
theorem Encoding.bI_16x16_3_2_1 : Encoding.Statement .bI_16x16_3_2_1 := fun _ => by decide
theorem Encoding.bIPcm : Encoding.Statement .bIPcm := fun _ => by decide
theorem Encoding.bSkip : Encoding.Statement .bSkip := fun _ => by decide
theorem Encoding.subPL0_8x8 : Encoding.Statement .subPL0_8x8 := fun _ => by decide
theorem Encoding.subPL0_8x4 : Encoding.Statement .subPL0_8x4 := fun _ => by decide
theorem Encoding.subPL0_4x8 : Encoding.Statement .subPL0_4x8 := fun _ => by decide
theorem Encoding.subPL0_4x4 : Encoding.Statement .subPL0_4x4 := fun _ => by decide
theorem Encoding.subBDirect_8x8 : Encoding.Statement .subBDirect_8x8 := fun _ => by decide
theorem Encoding.subBL0_8x8 : Encoding.Statement .subBL0_8x8 := fun _ => by decide
theorem Encoding.subBL1_8x8 : Encoding.Statement .subBL1_8x8 := fun _ => by decide
theorem Encoding.subBBi_8x8 : Encoding.Statement .subBBi_8x8 := fun _ => by decide
theorem Encoding.subBL0_8x4 : Encoding.Statement .subBL0_8x4 := fun _ => by decide
theorem Encoding.subBL0_4x8 : Encoding.Statement .subBL0_4x8 := fun _ => by decide
theorem Encoding.subBL1_8x4 : Encoding.Statement .subBL1_8x4 := fun _ => by decide
theorem Encoding.subBL1_4x8 : Encoding.Statement .subBL1_4x8 := fun _ => by decide
theorem Encoding.subBBi_8x4 : Encoding.Statement .subBBi_8x4 := fun _ => by decide
theorem Encoding.subBBi_4x8 : Encoding.Statement .subBBi_4x8 := fun _ => by decide
theorem Encoding.subBL0_4x4 : Encoding.Statement .subBL0_4x4 := fun _ => by decide
theorem Encoding.subBL1_4x4 : Encoding.Statement .subBL1_4x4 := fun _ => by decide
theorem Encoding.subBBi_4x4 : Encoding.Statement .subBBi_4x4 := fun _ => by decide
theorem Encoding.intra4x4Vertical : Encoding.Statement .intra4x4Vertical := fun _ => by decide
theorem Encoding.intra4x4Horizontal : Encoding.Statement .intra4x4Horizontal := fun _ => by decide
theorem Encoding.intra4x4Dc : Encoding.Statement .intra4x4Dc := fun _ => by decide
theorem Encoding.intra4x4DiagDownLeft : Encoding.Statement .intra4x4DiagDownLeft := fun _ => by decide
theorem Encoding.intra4x4DiagDownRight : Encoding.Statement .intra4x4DiagDownRight := fun _ => by decide
theorem Encoding.intra4x4VerticalRight : Encoding.Statement .intra4x4VerticalRight := fun _ => by decide
theorem Encoding.intra4x4HorizontalDown : Encoding.Statement .intra4x4HorizontalDown := fun _ => by decide
theorem Encoding.intra4x4VerticalLeft : Encoding.Statement .intra4x4VerticalLeft := fun _ => by decide
theorem Encoding.intra4x4HorizontalUp : Encoding.Statement .intra4x4HorizontalUp := fun _ => by decide
theorem Encoding.intra8x8Vertical : Encoding.Statement .intra8x8Vertical := fun _ => by decide
theorem Encoding.intra8x8Horizontal : Encoding.Statement .intra8x8Horizontal := fun _ => by decide
theorem Encoding.intra8x8Dc : Encoding.Statement .intra8x8Dc := fun _ => by decide
theorem Encoding.intra8x8DiagDownLeft : Encoding.Statement .intra8x8DiagDownLeft := fun _ => by decide
theorem Encoding.intra8x8DiagDownRight : Encoding.Statement .intra8x8DiagDownRight := fun _ => by decide
theorem Encoding.intra8x8VerticalRight : Encoding.Statement .intra8x8VerticalRight := fun _ => by decide
theorem Encoding.intra8x8HorizontalDown : Encoding.Statement .intra8x8HorizontalDown := fun _ => by decide
theorem Encoding.intra8x8VerticalLeft : Encoding.Statement .intra8x8VerticalLeft := fun _ => by decide
theorem Encoding.intra8x8HorizontalUp : Encoding.Statement .intra8x8HorizontalUp := fun _ => by decide
theorem Encoding.intra16x16Vertical : Encoding.Statement .intra16x16Vertical := fun _ => by decide
theorem Encoding.intra16x16Horizontal : Encoding.Statement .intra16x16Horizontal := fun _ => by decide
theorem Encoding.intra16x16Dc : Encoding.Statement .intra16x16Dc := fun _ => by decide
theorem Encoding.intra16x16Plane : Encoding.Statement .intra16x16Plane := fun _ => by decide
theorem Encoding.chromaDc : Encoding.Statement .chromaDc := fun _ => by decide
theorem Encoding.chromaHorizontal : Encoding.Statement .chromaHorizontal := fun _ => by decide
theorem Encoding.chromaVertical : Encoding.Statement .chromaVertical := fun _ => by decide
theorem Encoding.chromaPlane : Encoding.Statement .chromaPlane := fun _ => by decide
theorem Encoding.qpel00G : Encoding.Statement .qpel00G := fun _ => by decide
theorem Encoding.qpel01d : Encoding.Statement .qpel01d := fun _ => by decide
theorem Encoding.qpel02h : Encoding.Statement .qpel02h := fun _ => by decide
theorem Encoding.qpel03n : Encoding.Statement .qpel03n := fun _ => by decide
theorem Encoding.qpel10a : Encoding.Statement .qpel10a := fun _ => by decide
theorem Encoding.qpel11e : Encoding.Statement .qpel11e := fun _ => by decide
theorem Encoding.qpel12i : Encoding.Statement .qpel12i := fun _ => by decide
theorem Encoding.qpel13p : Encoding.Statement .qpel13p := fun _ => by decide
theorem Encoding.qpel20b : Encoding.Statement .qpel20b := fun _ => by decide
theorem Encoding.qpel21f : Encoding.Statement .qpel21f := fun _ => by decide
theorem Encoding.qpel22j : Encoding.Statement .qpel22j := fun _ => by decide
theorem Encoding.qpel23q : Encoding.Statement .qpel23q := fun _ => by decide
theorem Encoding.qpel30c : Encoding.Statement .qpel30c := fun _ => by decide
theorem Encoding.qpel31g : Encoding.Statement .qpel31g := fun _ => by decide
theorem Encoding.qpel32k : Encoding.Statement .qpel32k := fun _ => by decide
theorem Encoding.qpel33r : Encoding.Statement .qpel33r := fun _ => by decide
theorem Encoding.cpel00 : Encoding.Statement .cpel00 := fun _ => by decide
theorem Encoding.cpel01 : Encoding.Statement .cpel01 := fun _ => by decide
theorem Encoding.cpel02 : Encoding.Statement .cpel02 := fun _ => by decide
theorem Encoding.cpel03 : Encoding.Statement .cpel03 := fun _ => by decide
theorem Encoding.cpel04 : Encoding.Statement .cpel04 := fun _ => by decide
theorem Encoding.cpel05 : Encoding.Statement .cpel05 := fun _ => by decide
theorem Encoding.cpel06 : Encoding.Statement .cpel06 := fun _ => by decide
theorem Encoding.cpel07 : Encoding.Statement .cpel07 := fun _ => by decide
theorem Encoding.cpel10 : Encoding.Statement .cpel10 := fun _ => by decide
theorem Encoding.cpel11 : Encoding.Statement .cpel11 := fun _ => by decide
theorem Encoding.cpel12 : Encoding.Statement .cpel12 := fun _ => by decide
theorem Encoding.cpel13 : Encoding.Statement .cpel13 := fun _ => by decide
theorem Encoding.cpel14 : Encoding.Statement .cpel14 := fun _ => by decide
theorem Encoding.cpel15 : Encoding.Statement .cpel15 := fun _ => by decide
theorem Encoding.cpel16 : Encoding.Statement .cpel16 := fun _ => by decide
theorem Encoding.cpel17 : Encoding.Statement .cpel17 := fun _ => by decide
theorem Encoding.cpel20 : Encoding.Statement .cpel20 := fun _ => by decide
theorem Encoding.cpel21 : Encoding.Statement .cpel21 := fun _ => by decide
theorem Encoding.cpel22 : Encoding.Statement .cpel22 := fun _ => by decide
theorem Encoding.cpel23 : Encoding.Statement .cpel23 := fun _ => by decide
theorem Encoding.cpel24 : Encoding.Statement .cpel24 := fun _ => by decide
theorem Encoding.cpel25 : Encoding.Statement .cpel25 := fun _ => by decide
theorem Encoding.cpel26 : Encoding.Statement .cpel26 := fun _ => by decide
theorem Encoding.cpel27 : Encoding.Statement .cpel27 := fun _ => by decide
theorem Encoding.cpel30 : Encoding.Statement .cpel30 := fun _ => by decide
theorem Encoding.cpel31 : Encoding.Statement .cpel31 := fun _ => by decide
theorem Encoding.cpel32 : Encoding.Statement .cpel32 := fun _ => by decide
theorem Encoding.cpel33 : Encoding.Statement .cpel33 := fun _ => by decide
theorem Encoding.cpel34 : Encoding.Statement .cpel34 := fun _ => by decide
theorem Encoding.cpel35 : Encoding.Statement .cpel35 := fun _ => by decide
theorem Encoding.cpel36 : Encoding.Statement .cpel36 := fun _ => by decide
theorem Encoding.cpel37 : Encoding.Statement .cpel37 := fun _ => by decide
theorem Encoding.cpel40 : Encoding.Statement .cpel40 := fun _ => by decide
theorem Encoding.cpel41 : Encoding.Statement .cpel41 := fun _ => by decide
theorem Encoding.cpel42 : Encoding.Statement .cpel42 := fun _ => by decide
theorem Encoding.cpel43 : Encoding.Statement .cpel43 := fun _ => by decide
theorem Encoding.cpel44 : Encoding.Statement .cpel44 := fun _ => by decide
theorem Encoding.cpel45 : Encoding.Statement .cpel45 := fun _ => by decide
theorem Encoding.cpel46 : Encoding.Statement .cpel46 := fun _ => by decide
theorem Encoding.cpel47 : Encoding.Statement .cpel47 := fun _ => by decide
theorem Encoding.cpel50 : Encoding.Statement .cpel50 := fun _ => by decide
theorem Encoding.cpel51 : Encoding.Statement .cpel51 := fun _ => by decide
theorem Encoding.cpel52 : Encoding.Statement .cpel52 := fun _ => by decide
theorem Encoding.cpel53 : Encoding.Statement .cpel53 := fun _ => by decide
theorem Encoding.cpel54 : Encoding.Statement .cpel54 := fun _ => by decide
theorem Encoding.cpel55 : Encoding.Statement .cpel55 := fun _ => by decide
theorem Encoding.cpel56 : Encoding.Statement .cpel56 := fun _ => by decide
theorem Encoding.cpel57 : Encoding.Statement .cpel57 := fun _ => by decide
theorem Encoding.cpel60 : Encoding.Statement .cpel60 := fun _ => by decide
theorem Encoding.cpel61 : Encoding.Statement .cpel61 := fun _ => by decide
theorem Encoding.cpel62 : Encoding.Statement .cpel62 := fun _ => by decide
theorem Encoding.cpel63 : Encoding.Statement .cpel63 := fun _ => by decide
theorem Encoding.cpel64 : Encoding.Statement .cpel64 := fun _ => by decide
theorem Encoding.cpel65 : Encoding.Statement .cpel65 := fun _ => by decide
theorem Encoding.cpel66 : Encoding.Statement .cpel66 := fun _ => by decide
theorem Encoding.cpel67 : Encoding.Statement .cpel67 := fun _ => by decide
theorem Encoding.cpel70 : Encoding.Statement .cpel70 := fun _ => by decide
theorem Encoding.cpel71 : Encoding.Statement .cpel71 := fun _ => by decide
theorem Encoding.cpel72 : Encoding.Statement .cpel72 := fun _ => by decide
theorem Encoding.cpel73 : Encoding.Statement .cpel73 := fun _ => by decide
theorem Encoding.cpel74 : Encoding.Statement .cpel74 := fun _ => by decide
theorem Encoding.cpel75 : Encoding.Statement .cpel75 := fun _ => by decide
theorem Encoding.cpel76 : Encoding.Statement .cpel76 := fun _ => by decide
theorem Encoding.cpel77 : Encoding.Statement .cpel77 := fun _ => by decide
theorem Encoding.idct4x4 : Encoding.Statement .idct4x4 := fun _ => by decide
theorem Encoding.dequantBranches : Encoding.Statement .dequantBranches := fun _ => by decide
theorem Encoding.lumaDc4x4 : Encoding.Statement .lumaDc4x4 := fun _ => by decide
theorem Encoding.chromaDc2x2 : Encoding.Statement .chromaDc2x2 := fun _ => by decide
theorem Encoding.chromaAc : Encoding.Statement .chromaAc := fun _ => by decide
theorem Encoding.idct8x8 : Encoding.Statement .idct8x8 := fun _ => by decide
theorem Encoding.reconClip : Encoding.Statement .reconClip := fun _ => by decide
theorem Encoding.zeroBlock : Encoding.Statement .zeroBlock := fun _ => by decide
theorem Encoding.dcOnly4x4 : Encoding.Statement .dcOnly4x4 := fun _ => by decide
theorem Encoding.sgmap0Interleaved : Encoding.Statement .sgmap0Interleaved := fun _ => by decide
theorem Encoding.sgmap1Dispersed : Encoding.Statement .sgmap1Dispersed := fun _ => by decide
theorem Encoding.sgmap2Foreground : Encoding.Statement .sgmap2Foreground := fun _ => by decide
theorem Encoding.sgmap3BoxOut : Encoding.Statement .sgmap3BoxOut := fun _ => by decide
theorem Encoding.sgmap4Raster : Encoding.Statement .sgmap4Raster := fun _ => by decide
theorem Encoding.sgmap5Wipe : Encoding.Statement .sgmap5Wipe := fun _ => by decide
theorem Encoding.sgmap6Explicit : Encoding.Statement .sgmap6Explicit := fun _ => by decide
theorem Encoding.pocType0 : Encoding.Statement .pocType0 := fun _ => by decide
theorem Encoding.pocType1 : Encoding.Statement .pocType1 := fun _ => by decide
theorem Encoding.pocType2 : Encoding.Statement .pocType2 := fun _ => by decide

end Sys2Proof.Laws
end

