-- ==== Sys2Proof/Laws/Readers.lean ====
section
/-! SUPPORT. What a reader of one syntax element can change: the cursor and the engine, and nothing else. -/

namespace Sys2Proof.Machine

/-- Parsing went from `p` to `q` and moved nothing but the engine and, forward, the cursor. -/
def Kept (p q : Ps) : Prop :=
  q.br.rbsp = p.br.rbsp ∧ q.br.stopBit = p.br.stopBit ∧ q.mb = p.mb ∧ q.cur = p.cur ∧ q.kind = p.kind ∧ p.br.cursor ≤ q.br.cursor

theorem Kept.refl (p : Ps) : Kept p p := ⟨rfl, rfl, rfl, rfl, rfl, Nat.le_refl _⟩

theorem Kept.trans {p q r : Ps} (h : Kept p q) (k : Kept q r) : Kept p r :=
  ⟨k.1.trans h.1, k.2.1.trans h.2.1, k.2.2.1.trans h.2.2.1, k.2.2.2.1.trans h.2.2.2.1,
   k.2.2.2.2.1.trans h.2.2.2.2.1, Nat.le_trans h.2.2.2.2.2 k.2.2.2.2.2⟩

/-- The bit reader after it differs in the cursor alone. -/
theorem Kept.br {p q : Ps} (h : Kept p q) : q.br = { p.br with cursor := q.br.cursor } := by
  obtain ⟨h1, h2, -⟩ := h
  cases hq : q.br
  simp_all

/-- Moving the cursor forward. -/
theorem Kept.advance (p : Ps) (n : Nat) : Kept p { p with br := p.br.advance n } := ⟨rfl, rfl, rfl, rfl, rfl, Nat.le_add_right _ _⟩

/-- A reader leaves the RBSP, the macroblock record and the macroblock in progress as they were, whatever it answers. -/
def Keeps {α : Type} (r : Rd α) : Prop :=
  (∀ p v q, r p = .ok v q → Kept p q) ∧ ∀ p e q, r p = .error e q → Kept p q

namespace Keeps

variable {α β : Type}

theorem pure (v : α) : Keeps (Pure.pure v : Rd α) :=
  ⟨fun p w q h => by cases h; exact Kept.refl p, fun p e q h => by cases h⟩

theorem throw (e : ErrCode) : Keeps (MonadExcept.throw e : Rd α) :=
  ⟨fun p w q h => (by cases h), fun p e q h => by cases h; exact Kept.refl p⟩

theorem throwThe (e : ErrCode) : Keeps (throwThe ErrCode e : Rd α) := throw e

theorem bind {r : Rd α} {f : α → Rd β} (hr : Keeps r) (hf : ∀ v, Keeps (f v)) : Keeps (r >>= f) := by
  constructor <;> intro p v q h <;> change EStateM.bind r f p = _ at h <;> unfold EStateM.bind at h <;>
    cases e : r p <;> simp only [e] at h
  · exact (hr.1 _ _ _ e).trans ((hf _).1 _ _ _ h)
  · cases h
  · exact (hr.1 _ _ _ e).trans ((hf _).2 _ _ _ h)
  · cases h; exact hr.2 _ _ _ e

theorem get : Keeps (MonadState.get : Rd Ps) :=
  ⟨fun p v q h => by cases h; exact Kept.refl p, fun p e q h => by cases h⟩

theorem setCabac (f : Ps → Cabac) : Keeps (modify fun p => { p with cabac := f p } : Rd PUnit) :=
  ⟨fun p v q h => by cases h; exact Kept.refl p, fun p e q h => by cases h⟩

theorem ite {c : Prop} [Decidable c] {r q : Rd α} (hr : Keeps r) (hq : Keeps q) : Keeps (if c then r else q) := by
  split <;> assumption

theorem readBits (n : Nat) : Keeps (readBits n) := by
  constructor <;> intro p v q h <;> unfold Machine.readBits at h <;> split at h <;> cases h <;>
    first | exact Kept.refl p | exact Kept.advance p _

theorem readCode (n : Nat) (dec : List Bool → CodeRes α) : Keeps (readCode n dec) := by
  constructor <;> intro p v q h <;> unfold Machine.readCode at h <;> split at h <;> cases h <;>
    first | exact Kept.refl p | exact Kept.advance p _

theorem readTable (t : CodeTable α) : Keeps (readTable t) := by
  constructor <;> intro p v q h <;> unfold Machine.readTable at h <;> split at h <;> (try dsimp only at h) <;> split at h <;>
    cases h <;> first | exact Kept.refl p | exact Kept.advance p _

/-! ## The engine -/

theorem renorm (n : Nat) : Keeps (renorm n) := by
  induction n with
  | zero => exact pure ()
  | succ n ih =>
    unfold Machine.renorm
    exact bind get fun p => ite (bind (readBits 1) fun b => bind (setCabac _) fun _ => ih) (pure ())

theorem skipBits (n : Nat) : Keeps (skipBits n) := by
  induction n with
  | zero => exact pure ()
  | succ n ih => exact bind (readBits 1) fun _ => ih

theorem askOracle (op : EngineOp) : Keeps (askOracle op) :=
  bind get fun _ => bind (skipBits _) fun _ => bind (setCabac _) fun _ => pure _

theorem engineOp (op : EngineOp) {r : Rd Nat} (hr : Keeps r) : Keeps (engineOp op r) := by
  constructor <;> intro p v q h <;> unfold Machine.engineOp at h <;> split at h
  · exact hr.1 _ _ _ h
  · exact (askOracle op).1 _ _ _ h
  · exact hr.2 _ _ _ h
  · exact (askOracle op).2 _ _ _ h

theorem decision (i : Nat) : Keeps (engine.decision i) :=
  engineOp _ <| by
    unfold decodeDecision
    exact bind get fun p => ite (bind (setCabac _) fun _ => bind (renorm 9) fun _ => pure _)
      (bind (setCabac _) fun _ => bind (renorm 9) fun _ => pure _)

theorem bypass : Keeps engine.bypass :=
  engineOp _ <| by
    unfold decodeBypass
    exact bind (readBits 1) fun b => bind get fun p => ite (bind (setCabac _) fun _ => pure _) (bind (setCabac _) fun _ => pure _)

theorem terminate : Keeps engine.terminate :=
  engineOp _ <| by
    unfold decodeTerminate
    exact bind get fun p => bind (setCabac _) fun _ => ite (pure _) (bind (renorm 9) fun _ => pure _)

/-! ## The binarizations -/

theorem unary (f : Nat → Nat) (n i : Nat) : Keeps (decUnary engine f n i) := by
  induction n generalizing i with
  | zero => exact throw _
  | succ n ih => exact bind (decision _) fun b => ite (pure _) (ih _)

theorem tu (f : Nat → Nat) (n i : Nat) : Keeps (decTu engine f n i) := by
  induction n generalizing i with
  | zero => exact pure _
  | succ n ih => exact bind (decision _) fun b => ite (pure _) (ih _)

theorem egBits (k v : Nat) : Keeps (decEgBits engine k v) := by
  induction k generalizing v with
  | zero => exact pure _
  | succ k ih => exact bind bypass fun b => ih _

theorem egk (n k v : Nat) : Keeps (decEgk engine n k v) := by
  induction n generalizing k v with
  | zero => exact throw _
  | succ n ih =>
    exact bind bypass fun b => ite (ite (bind (throw _) fun _ => ih _ _) (ih _ _)) (egBits _ _)

theorem uegk (f : Nat → Nat) (k u : Nat) (sg : Bool) : Keeps (decUegk engine f k u sg) := by
  unfold decUegk
  refine bind (tu _ _ _) fun p => ?_
  have tail (v : Nat) : Keeps (if sg = true ∧ v ≠ 0 then do
      if (← engine.bypass) = 1 then return -(v : Int)
      return v else (Pure.pure (v : Int) : Rd Int)) :=
    ite (bind bypass fun b => ite (pure _) (pure _)) (pure _)
  exact ite (bind (egk _ _ _) fun v => tail v) (bind (pure _) fun v => tail v)

theorem mbTypeI (off i0 cl cc cc2 cp1 cp0 : Nat) : Keeps (decMbTypeI engine off i0 cl cc cc2 cp1 cp0) := by
  unfold decMbTypeI
  refine bind (decision _) fun a => ite (pure _) (bind terminate fun t => ite (pure _) (bind (decision _) fun l =>
    bind (decision _) fun c => ?_))
  have tail (c : Nat) : Keeps (do
      let p1 ← engine.decision (off + cp1)
      let p0 ← engine.decision (off + cp0)
      return 1 + (2 * p1 + p0) + 4 * c + 12 * l : Rd Nat) :=
    bind (decision _) fun _ => bind (decision _) fun _ => pure _
  exact ite (bind (bind (decision _) fun _ => pure _) fun v => tail v) (bind (pure _) fun v => tail v)

theorem mbTypeP : Keeps (decMbTypeP engine) :=
  bind (decision _) fun _ => ite
    (bind (decision _) fun _ => ite (bind (decision _) fun _ => pure _) (bind (decision _) fun _ => pure _))
    (bind (mbTypeI _ _ _ _ _ _ _) fun _ => pure _)

theorem mbTypeB (i0 : Nat) : Keeps (decMbTypeB engine i0) := by
  unfold decMbTypeB
  refine bind (decision _) fun _ => ite (pure _) (bind (decision _) fun _ => ite (bind (decision _) fun _ => pure _)
    (bind (decision _) fun _ => bind (decision _) fun _ => bind (decision _) fun _ => bind (decision _) fun _ => ?_))
  exact ite (pure _) (ite (bind (mbTypeI _ _ _ _ _ _ _) fun _ => pure _) (ite (pure _) (ite (pure _)
    (bind (decision _) fun _ => pure _))))

theorem subP : Keeps (decSubMbTypeP engine) :=
  bind (decision _) fun _ => ite (pure _) (bind (decision _) fun _ => ite (pure _)
    (bind (decision _) fun _ => ite (pure _) (pure _)))

theorem subB : Keeps (decSubMbTypeB engine) := by
  unfold decSubMbTypeB
  have tail (m : Nat) : Keeps (do
      let b1 ← engine.decision 39
      let b0 ← engine.decision 39
      return 3 + 4 * m + 2 * b1 + b0 : Rd Nat) := bind (decision _) fun _ => bind (decision _) fun _ => pure _
  exact bind (decision _) fun _ => ite (pure _) (bind (decision _) fun _ => ite (bind (decision _) fun _ => pure _)
    (bind (decision _) fun m => ite
      (bind (decision _) fun _ => ite (bind (decision _) fun _ => pure _) (tail m)) (tail m)))

theorem natRd {r : Rd Nat} (h : Keeps r) : Keeps (natRd r) := bind h fun _ => pure _

/-! ## The elements -/

theorem ce (e : CeElem) : Keeps (readCe e) := by
  cases e with
  | coeffToken n => exact bind (readTable _) fun _ => pure _
  | levelPrefix => exact bind (readCode _ _) fun _ => pure _
  | levelSuffix n => exact bind (readBits _) fun _ => pure _
  | totalZeros d t => exact bind (readTable _) fun _ => pure _
  | runBefore z => exact bind (readTable _) fun _ => pure _

theorem cbpLuma (s : State) (n k d : Nat) : Keeps (aeCbpLuma s n k d) := by
  induction n generalizing k d with
  | zero => exact pure _
  | succ n ih => exact bind (decision _) fun _ => ih _ _

theorem cbp (s : State) : Keeps (aeCbp s) :=
  bind (cbpLuma s _ _ _) fun _ => bind (decision _) fun _ => ite (pure _)
    (bind (decision _) fun _ => ite (pure _) (pure _))

theorem mbType (s : State) : Keeps (aeMbType s) := by
  unfold aeMbType
  split
  · exact mbTypeP
  · exact mbTypeB _
  · exact mbTypeI _ _ _ _ _ _ _

theorem subMbType (s : State) : Keeps (aeSubMbType s) := ite subB subP

theorem ae (s : State) (e : AeElem) : Keeps (readAe s e) := by
  cases e with
  | mbSkipFlag => exact natRd (decision _)
  | mbType => exact natRd (mbType s)
  | subMbType => exact natRd (subMbType s)
  | transformSize8x8Flag => exact natRd (decision _)
  | prevIntraPredModeFlag => exact natRd (decision _)
  | remIntraPredMode =>
    exact natRd (bind (decision _) fun _ => bind (decision _) fun _ => bind (decision _) fun _ => pure _)
  | intraChromaPredMode => exact natRd (tu _ _ _)
  | codedBlockPattern => exact natRd (cbp s)
  | refIdx x p => exact natRd (bind get fun _ => unary _ _ _)
  | mvd x p sub c => exact bind get fun _ => uegk _ _ _ _
  | mbQpDelta => exact bind (unary _ _ _) fun _ => pure _
  | endOfSliceFlag => exact natRd terminate
  | codedBlockFlag cat plane blk => exact natRd (decision _)
  | significantCoeffFlag cat i => exact natRd (ite (decision _) (decision _))
  | lastSignificantCoeffFlag cat i => exact natRd (ite (decision _) (decision _))
  | coeffAbsLevelMinus1 cat gt1 eq1 => exact uegk _ _ _ _
  | coeffSignFlag => exact natRd bypass

end Keeps
/-! ## What the engine's operations do -/

theorem engineOp_procedures {op : EngineOp} {r : Rd Nat} {p : Ps} (h : p.kind = .procedures) : engineOp op r p = r p := by
  simp [engineOp, h]

theorem engineOp_oracle {op : EngineOp} {r : Rd Nat} {p : Ps} (h : p.kind = .oracle) : engineOp op r p = askOracle op p := by
  simp [engineOp, h]

/-- Bits read one by one: the cursor moves past them, or to the end of the RBSP, where `E_BITS` stands. -/
theorem skipBits_eq (n : Nat) : ∀ p : Ps, p.br.cursor ≤ 8 * p.br.rbsp.length →
    skipBits n p =
      if p.br.cursor + n ≤ 8 * p.br.rbsp.length then .ok () { p with br := { p.br with cursor := p.br.cursor + n } }
      else .error .bits { p with br := { p.br with cursor := 8 * p.br.rbsp.length } } := by
  induction n with
  | zero => intro p hp; simp [skipBits, hp, pure, EStateM.pure]
  | succ n ih =>
    intro p hp
    change EStateM.bind (readBits 1) _ p = _
    unfold EStateM.bind readBits
    by_cases h : p.br.cursor + 1 > 8 * p.br.rbsp.length
    · have : p.br.cursor = 8 * p.br.rbsp.length := by omega
      have h' : ¬ p.br.cursor + (n + 1) ≤ 8 * p.br.rbsp.length := by omega
      rw [if_pos h, if_neg h']
      simp [← this]
    · rw [if_neg h]
      simp only [Br.advance]
      rw [ih _ (by simp only; omega)]
      simp only [Nat.add_assoc, Nat.add_comm 1 n]

/-- An operation of an oracle. -/
theorem askOracle_eq (op : EngineOp) (p : Ps) (hp : p.br.cursor ≤ 8 * p.br.rbsp.length) :
    let t := Config.cabacOracle op p.cabac (p.br.window (8 * p.br.rbsp.length))
    let w := p.cabac.codeword.next op t.bin
    let n := oracleReads op t w p.br.cursor
    askOracle op p =
      if p.br.cursor + n ≤ 8 * p.br.rbsp.length then
        .ok t.bin.toNat { p with br := { p.br with cursor := p.br.cursor + n }, cabac := { t.after with codeword := w } }
      else .error .bits { p with br := { p.br with cursor := 8 * p.br.rbsp.length } } := by
  intro t w n
  change EStateM.bind (skipBits n) _ p = _
  unfold EStateM.bind
  rw [skipBits_eq _ _ hp]
  split <;> rename_i h
  · split at h
    · cases h; simp [*]; rfl
    · cases h
  · split at h
    · cases h
    · cases h; simp [*]

/-- After a terminating bin 1 an oracle that has not passed the codeword's end has the cursor there (R504). -/
theorem oracle_terminates (p q : Ps) (hc : p.br.cursor ≤ p.cabac.codeword.stop) (hp : p.br.cursor ≤ 8 * p.br.rbsp.length)
    (h : askOracle .terminate p = .ok 1 q) : q.br.cursor = p.cabac.codeword.stop := by
  have e := (askOracle_eq .terminate p hp).symm.trans h
  by_cases hn : p.br.cursor + oracleReads .terminate (Config.cabacOracle .terminate p.cabac (p.br.window (8 * p.br.rbsp.length)))
      (p.cabac.codeword.next .terminate (Config.cabacOracle .terminate p.cabac (p.br.window (8 * p.br.rbsp.length))).bin)
      p.br.cursor ≤ 8 * p.br.rbsp.length
  · rw [if_pos hn] at e
    injection e with e1 e2
    rw [← e2]
    cases hb : (Config.cabacOracle .terminate p.cabac (p.br.window (8 * p.br.rbsp.length))).bin
    · simp [hb] at e1
    · simp [oracleReads, hb, Codeword.next]
      omega
  · rw [if_neg hn] at e
    cases e

/-- `RenormD` doubles the range and reads as the codeword's renormalisation says. -/
theorem renorm_codeword (n : Nat) : ∀ (p q : Ps), renorm n p = .ok () q →
    Codeword.renorm n ⟨p.cabac.ctx, p.cabac.range, p.br.cursor⟩ = ⟨q.cabac.ctx, q.cabac.range, q.br.cursor⟩ := by
  induction n with
  | zero => intro p q h; cases h; rfl
  | succ n ih =>
    intro p q h
    unfold Codeword.renorm
    by_cases hr : p.cabac.range < 256
    · change (if p.cabac.range < 256 then _ else _ : Rd Unit) p = _ at h
      rw [if_pos hr] at h ⊢
      change EStateM.bind (readBits 1) _ p = _ at h
      unfold EStateM.bind readBits at h
      split at h <;> rename_i e <;> split at e <;> cases e
      · exact ih _ _ h
      · cases h
    · change (if p.cabac.range < 256 then _ else _ : Rd Unit) p = _ at h
      rw [if_neg hr] at h ⊢
      cases h; rfl

end Sys2Proof.Machine
end

