-- ==== Sys2Proof/Laws/Steps.lean ====
section
/-! SUPPORT. What one step does with the work that is due, one frame after a change of a frame, and the fields after SRST. -/

namespace Sys2Proof.Machine

/-- A step of the block's turn does the due piece of work. -/
theorem step_due {s : State} {k : Task} {ts : List Task} (h : s.due k ts) : step s = doTask k (s.taken ts) := by
  rcases s with ⟨_, _, _, _, _, _, _, _, _, _, _, _, _, _, _, host, _, tasks, _, _⟩
  obtain ⟨h1, h2⟩ := h
  simp only at h2
  subst h2
  match host, h1 with
  | [], _ => rfl
  | (0, e) :: q, h1 => simp [State.blockTurn] at h1
  | (d + 1, e) :: q, _ => rfl

/-- With no work the block's turn changes nothing but the host's delay. -/
theorem step_idle {s : State} (h : s.tasks = []) (hb : s.blockTurn = true) : step s = .next (s.setHost (tick s.host)) := by
  rcases s with ⟨_, _, _, _, _, _, _, _, _, _, _, _, _, _, _, host, _, tasks, _, _⟩
  simp only at h
  subst h
  match host, hb with
  | [], _ => rfl
  | (0, e) :: q, hb => simp [State.blockTurn] at hb
  | (d + 1, e) :: q, _ => rfl

/-- A frame after a change of frame `h`. -/
theorem frame_updFrame (s : State) (h g : Nat) (f : Frame → Frame) :
    (s.updFrame h f).frame g = if g = h ∧ h < s.fs.length then f (s.frame h) else s.frame g := by
  simp only [State.updFrame, State.frame, State.setFs, List.getD_eq_getElem?_getD, List.getElem?_modify]
  by_cases e : h = g
  · subst e
    by_cases l : h < s.fs.length
    · simp [l]
    · simp [l]
  · simp [e, Ne.symm e]

@[simp] theorem updFrame_length (s : State) (h : Nat) (f : Frame → Frame) : (s.updFrame h f).fs.length = s.fs.length := by
  simp [State.updFrame, State.setFs]

/-- A frame after the pools are put back. -/
theorem frame_restorePools (s : State) (g : Nat) (hg : g < s.fs.length) :
    s.restorePools.frame g =
      match s.savedPools with
      | none => s.frame g
      | some p => (s.frame g).remark (p.marks.getD g .unused) := by
  unfold State.restorePools
  cases s.savedPools with
  | none => rfl
  | some p => simp [State.frame, State.setFs, State.setMaxLong, State.setSavedPools, hg]

@[simp] theorem softReset_csr (s : State) : s.softReset.csr = Csr.reset := rfl
@[simp] theorem softReset_tasks (s : State) : s.softReset.tasks = [] := rfl
@[simp] theorem softReset_mem (s : State) : s.softReset.mem = s.mem := rfl
@[simp] theorem softReset_params (s : State) : s.softReset.params = s.params := rfl
@[simp] theorem softReset_host (s : State) : s.softReset.host = s.host := rfl
@[simp] theorem softReset_au (s : State) : s.softReset.au = Au.reset := rfl
@[simp] theorem softReset_fs (s : State) : s.softReset.fs = s.fs.map fun f => { Frame.free with motion := f.motion } := rfl
@[simp] theorem softReset_dbk (s : State) : s.softReset.dbk = s.dbk.map fun _ => Dbk.empty := rfl

end Sys2Proof.Machine
end

