-- ==== Sys2Proof/Laws/TaskQuiet.lean ====
section
/-! SUPPORT. The acts between the operations: which are quiet, and what a quiet act keeps. -/

namespace Sys2Proof.Machine

theorem freeUnused_length (fs : List Frame) : (freeUnused fs).length = fs.length := by simp [freeUnused]

namespace Quiet
section
variable {s u : State} (h : Quiet s u)
include h

theorem nalDone : Quiet s u.nalDone := h.trans (by constructor <;> first | rfl | exact id)
theorem firstMb : Quiet s u.firstMb := h.updSl _
theorem afterHeader (x : SliceHdr) : Quiet s (u.afterHeader x) := by
  unfold State.afterHeader
  simp only
  split
  · exact (h.setSl _).raise _
  · split
    · exact (h.setSl _).sliceEnd
    · exact ((h.setSl _).setFsm _).push _
theorem sliceHeader : Quiet s u.sliceHeader := by
  unfold State.sliceHeader
  exact h.parse _ _ fun _ _ ht => ht.afterHeader _
theorem alloc : Quiet s u.alloc := by
  unfold State.alloc
  split
  · exact h.raise _
  · split
    · exact h.emptyPools.push _
    · exact h.push _
theorem initRefLists : Quiet s u.initRefLists := h.setSl _
theorem rplmStart (x : Nat) : Quiet s (u.rplmStart x) := h.setWk _
theorem startDs : Quiet s u.startDs := ((h.setDs _).setAu _).updDbk _ _
theorem startLoop : Quiet s u.startLoop := (h.setFsm _).push _
theorem initSlice : Quiet s u.initSlice := by
  unfold State.initSlice
  split
  · exact h.startDs.parse _ _ fun _ _ ht => ht.startLoop
  · exact h.startDs.startLoop
theorem loopTop : Quiet s u.loopTop := by
  unfold State.loopTop
  split
  · exact h.push _
  · split <;> exact h.push _
theorem skipRun : Quiet s u.skipRun := (h.setDs _).push _
theorem skipLoop (n : Nat) : Quiet s (u.skipLoop n) := by
  unfold State.skipLoop
  split
  · exact h.push _
  · exact (h.setDs _).push _
theorem skipNext (n : Nat) : Quiet s (u.skipNext n) := (h.setDs _).nextMb _
theorem skipFlag : Quiet s u.skipFlag := (h.setDs _).push _
theorem mbStart (b : Bool) : Quiet s (u.mbStart b) := by
  unfold State.mbStart
  split
  · exact h.raise _
  · exact ((h.setMb _).setWk _).push _
theorem loopEnd : Quiet s u.loopEnd := by
  unfold State.loopEnd
  split
  · exact (h.setDs _).push _
  · simp only
    split
    · exact (h.setDs _).push _
    · exact (h.setDs _).sliceEnd
theorem endFlag : Quiet s u.endFlag := by
  unfold State.endFlag
  split
  · exact (h.setDs _).push _
  · exact h.sliceEnd
theorem mbRest : Quiet s u.mbRest := by
  unfold State.mbRest
  exact h.parse _ _ fun _ _ ht => (ht.updQp _).push _
theorem i4Mode (k : Nat) : Quiet s (u.i4Mode k) := (h.setWk _).push _
theorem i8Mode (k : Nat) : Quiet s (u.i8Mode k) := (h.setWk _).push _
theorem blockKernel (plane x y size qp l full : Nat) (d : Bool) (lvl : List Int) :
    Quiet s (u.blockKernel plane x y size qp l full d lvl) := (h.setWk _).push _
theorem dcKernel (qp l k : Nat) (lvl : List Int) : Quiet s (u.dcKernel qp l k lvl) := (h.setWk _).push _
theorem luma4x4 (k : Nat) : Quiet s (u.luma4x4 k) := h.blockKernel _ _ _ _ _ _ _ _ _
theorem luma8x8 (k : Nat) : Quiet s (u.luma8x8 k) := h.blockKernel _ _ _ _ _ _ _ _ _
theorem lumaDc : Quiet s u.lumaDc := h.dcKernel _ _ _ _
theorem chromaDc (c : Nat) : Quiet s (u.chromaDc c) := h.dcKernel _ _ _ _
theorem chromaAc (c k : Nat) : Quiet s (u.chromaAc c k) := h.blockKernel _ _ _ _ _ _ _ _ _
theorem chromaPred (c : Nat) : Quiet s (u.chromaPred c) := (h.setWk _).push _
theorem startPart (i : Nat) : Quiet s (u.startPart i) := by
  unfold State.startPart
  simp only
  split
  · exact h.raise _
  · exact (h.setWk _).push _
theorem weightPart : Quiet s u.weightPart := h.setWk _
theorem predLuma (x : Nat) : Quiet s (u.predLuma x) := (h.setWk _).push _
theorem predChroma (x c : Nat) : Quiet s (u.predChroma x c) := (h.setWk _).push _
theorem outputFrame (n : Nat) : Quiet s (u.outputFrame n) := by
  refine h.trans ?_
  constructor
  case fs => exact (freeUnused_length _).trans (List.length_modify ..)
  case dbk => exact List.length_modify ..
  case errors => exact id
  all_goals rfl
theorem clearAu : Quiet s u.clearAu := ((h.setAu _).trans (by constructor <;> first | rfl | exact id)).setSavedPools _
theorem auEndFinish : Quiet s u.auEndFinish := by
  unfold State.auEndFinish
  split
  · exact h.clearAu
  · split
    · exact h.clearAu
    · exact (h.outputFrame _).clearAu
end
end Quiet

/-- A quiet act keeps soundness. -/
theorem Quiet.inv {s t : State} (h : Quiet s t) (hi : s.Inv) : t.Inv := by
  obtain ⟨h1, h2, h3, h4⟩ := hi
  refine ⟨by rw [h.mem]; exact h1, ?_, h.errors h3, ?_⟩
  · simpa only [State.sizesOk, h.sps, h.pps, h.fs, h.dbk, h.params] using h2
  · simpa only [State.addressesOk, h.nalAddr, h.frameBase, h.params] using h4

/-- Memory in canonical form is all that a change of memory needs to keep soundness. -/
theorem State.Inv.setMem {s : State} (hi : s.Inv) (m : List Host.Cell) (hm : Mem.wf m = true) : (s.setMem m).Inv :=
  ⟨hm, hi.2.1, hi.2.2.1, hi.2.2.2⟩

theorem fillRecords_quiet (s : State) (n : Nat) : Quiet s (s.fillRecords n) :=
  (((Quiet.refl s).updFrame _ _).setAu _).updDbk _ _

/-- The free samples of a frame go into memory in canonical form. -/
theorem freeSamples_inv {s : State} (hi : s.Inv) (h n : Nat) : (s.freeSamples h n).Inv :=
  ((Quiet.refl _).drawn 1).inv (hi.setMem _ (Mem.wf_fill _ _ _ _ hi.1))

/-- Every byte after a frame's samples took free values. -/
theorem freeSamples_byteAt (s : State) (hm : Mem.wf s.mem = true) (h n a : Nat) :
    (s.freeSamples h n).byteAt a =
      if s.frameStart h ≤ a ∧ a < s.frameStart h + 384 * n then Config.freeSample s.freeCtr a else s.byteAt a := by
  change (Mem.read (Mem.fill s.mem _ _ _) a).getD _ = _
  rw [Mem.read_fill _ _ _ _ hm]
  split <;> rfl

/-- Filling a frame keeps soundness. -/
theorem fillFrame_inv {s : State} (hi : s.Inv) (n : Nat) : (s.fillFrame n).Inv :=
  freeSamples_inv ((fillRecords_quiet s n).inv hi) _ _

/-- So does the end of the allocation. -/
theorem allocFinish_inv {s : State} (hi : s.Inv) (n : Nat) : (s.allocFinish n).Inv :=
  ((Quiet.refl _).push _).inv (fillFrame_inv hi n)

end Sys2Proof.Machine
end

