-- ==== Sys2Proof/Tests/Slice0.lean ====
section
/-! SUPPORT. Small tests with values of 95_test_vectors.md and of the rules, the ill-formed terms that WellFormed refuses, and the witnesses of the statements' hypotheses. -/

namespace Sys2Proof.Tests
open Sys2Proof Sys2Proof.Machine

/-! ## Helpers -/

/-- Bits from their written form. -/
def bits (s : String) : List Bool := s.toList.map fun c => c == '1'

/-- The state of an outcome that goes on. -/
def got (o : Host.Outcome State Fault Refusal) : State :=
  match o with
  | .next t => t
  | .fault _ | .refused _ => State.reset

/-- The reset state with bits at the cursor: an RBSP of the given bytes. -/
def withRbsp (l : List Nat) : State := State.reset.setBr (Br.ofRbsp (l.map (BitVec.ofNat 8)))

/-- The reset state with working values. -/
def withWk (f : Wk → Wk) : State := State.reset.setWk (f Wk.reset)

/-- The reset state with a slice header. -/
def withHdr (f : SliceHdr → SliceHdr) : State := State.reset.setSl (some (f SliceHdr.empty))

/-- A further change of the slice header. -/
def mapHdr (s : State) (f : SliceHdr → SliceHdr) : State := s.setSl (some (f s.hdr))

/-! ## WellFormed refuses, check by check -/

theorem test_wf_refuses_readWidth : (WellFormed (.descU 0) || WellFormed (.descF 33) || WellFormed (.descUv 33)) = false := by decide
theorem test_wf_accepts_readWidth : (WellFormed (.descU 1) && WellFormed (.descF 32) && WellFormed (.descUv 32)) = true := by decide
theorem test_wf_refuses_rangeMaximum : (WellFormed (.descTe 0)) = false := by decide
theorem test_wf_refuses_coeffToken : WellFormed (.descCe (.coeffToken (-2))) = false := by decide
theorem test_wf_refuses_levelSuffix : WellFormed (.descCe (.levelSuffix 29)) = false := by decide
theorem test_wf_refuses_totalZeros :
    (WellFormed (.descCe (.totalZeros false 0)) || WellFormed (.descCe (.totalZeros false 16)) ||
      WellFormed (.descCe (.totalZeros true 4))) = false := by decide
theorem test_wf_refuses_runBefore : WellFormed (.descCe (.runBefore 0)) = false := by decide
theorem test_wf_refuses_refIdx : (WellFormed (.descAe (.refIdx 2 0)) || WellFormed (.descAe (.refIdx 0 4))) = false := by decide
theorem test_wf_refuses_mvd :
    (WellFormed (.descAe (.mvd 2 0 0 0)) || WellFormed (.descAe (.mvd 0 4 0 0)) || WellFormed (.descAe (.mvd 0 0 4 0)) ||
      WellFormed (.descAe (.mvd 0 0 0 2))) = false := by decide
theorem test_wf_refuses_codedBlockFlag :
    (WellFormed (.descAe (.codedBlockFlag 5 0 0)) || WellFormed (.descAe (.codedBlockFlag 0 3 0)) ||
      WellFormed (.descAe (.codedBlockFlag 0 0 16))) = false := by decide
theorem test_wf_refuses_significance :
    (WellFormed (.descAe (.significantCoeffFlag 6 0)) || WellFormed (.descAe (.lastSignificantCoeffFlag 0 63))) = false := by decide
theorem test_wf_refuses_absLevel : WellFormed (.descAe (.coeffAbsLevelMinus1 6 0 0)) = false := by decide
theorem test_wf_refuses_ueOperand :
    (WellFormed (.rplmSub 4294967295) || WellFormed (.rplmAdd 4294967295) || WellFormed (.rplmLong 4294967295) ||
      WellFormed (.mmcoShortUnused 4294967295) || WellFormed (.mmcoLongUnused 4294967295) ||
      WellFormed (.mmcoMaxLongIdx 4294967295) || WellFormed (.mmcoCurToLong 4294967295)) = false := by decide
theorem test_wf_refuses_ueOperands :
    (WellFormed (.mmcoShortToLong 4294967295 0) || WellFormed (.mmcoShortToLong 0 4294967295)) = false := by decide

/-! ## Decoding, by words written out from the spec's encodings -/

-- 10_state.md R62: SRST bit 0, NAL bit 1, AU_END bit 2, RELEASE bit 3
theorem test_decode_cmd :
    decode .cmd (bits "00000000000000000000000000000001") = .ok .srst 32 ∧
    decode .cmd (bits "00000000000000000000000000000010") = .ok .nal 32 ∧
    decode .cmd (bits "00000000000000000000000000000100") = .ok .auEnd 32 ∧
    decode .cmd (bits "00000000000000000000000000001000") = .ok .release 32 := by decide

-- R63: bit 0 decides alone; two other command bits are refused
theorem test_decode_cmd_many :
    decode .cmd (bits "00000000000000000000000000001111") = .ok .srst 32 ∧
    decode .cmd (bits "00000000000000000000000000001110") = .error .reserved 32 := by decide

-- 95_test_vectors.md V2.5
theorem test_decode_nal_header :
    decode .nalHdr (bits "01100111") = .ok (.nalSps 3) 8 ∧ decode .nalHdr (bits "01101000") = .ok (.nalPps 3) 8 ∧
    decode .nalHdr (bits "01100101") = .ok (.nalIdr 3) 8 ∧ decode .nalHdr (bits "01000001") = .ok (.nalSlice 2) 8 ∧
    decode .nalHdr (bits "00000110") = .ok (.nalType6 0) 8 ∧ decode .nalHdr (bits "00001001") = .ok (.nalType9 0) 8 ∧
    decode .nalHdr (bits "11100101") = .ok (.nalForbidden 0x65) 8 := by decide

-- 30_encoding.md R147 and 95_test_vectors.md P1, P2
theorem test_decode_slice_type :
    decode .sliceType (bits "0001000") = .ok .sliceIAll 7 ∧ decode .sliceType (bits "00110") = .ok .slicePAll 5 ∧
    decode .sliceType (bits "010") = .ok .sliceB 3 ∧ decode .sliceType (bits "0001011") = .error .reserved 7 := by decide

-- 95_test_vectors.md P1, P3, P4
theorem test_decode_mb_type_i :
    decode .mbI (bits "00100") = .ok .i_16x16_2_0_0 5 ∧ decode .mbI (bits "0001000") = .ok .i_16x16_2_1_0 7 ∧
    decode .mbI (bits "011") = .ok .i_16x16_1_0_0 3 ∧ decode .mbI (bits "000011010") = .ok .iPcm 9 := by decide

-- 30_encoding.md R148: P types 0..4, then the I types from 5; 31 is reserved
theorem test_decode_mb_type_p :
    decode .mbP (bits "1") = .ok .pL0_16x16 1 ∧ decode .mbP (bits "00101") = .ok .p8x8ref0 5 ∧
    decode .mbP (bits "00110") = .ok .pINxN 5 ∧ decode .mbP (bits "000011111") = .ok .pIPcm 9 ∧
    decode .mbP (bits "00000100000") = .error .reserved 11 := by decide

-- R148: B types 0..22, then the I types from 23; 49 is reserved
theorem test_decode_mb_type_b :
    decode .mbB (bits "1") = .ok .bDirect16x16 1 ∧ decode .mbB (bits "000010111") = .ok .b8x8 9 ∧
    decode .mbB (bits "000011000") = .ok .bINxN 9 ∧ decode .mbB (bits "00000110001") = .ok .bIPcm 11 ∧
    decode .mbB (bits "00000110010") = .error .reserved 11 := by decide

-- R149, 44_mb_syntax.md R444
theorem test_decode_sub_type :
    decode .subP (bits "011") = .ok .subPL0_4x8 3 ∧ decode .subP (bits "00101") = .error .reserved 5 ∧
    decode .subB (bits "0001101") = .ok .subBBi_4x4 7 ∧ decode .subB (bits "0001110") = .error .reserved 7 := by decide

-- R150: mode numbers; the chroma mode is ue(v)
theorem test_decode_modes :
    decode .i4Mode (bits "1000") = .ok .intra4x4HorizontalUp 4 ∧ decode .i4Mode (bits "1001") = .error .reserved 4 ∧
    decode .i8Mode (bits "0011") = .ok .intra8x8DiagDownLeft 4 ∧ decode .i16Mode (bits "11") = .ok .intra16x16Plane 2 ∧
    decode .chromaMode (bits "00100") = .ok .chromaPlane 5 ∧ decode .chromaMode (bits "00101") = .error .reserved 5 := by decide

-- R151: (xFrac << 2) | yFrac, (xFC << 3) | yFC; 48_interp_transform.md for the kernels
theorem test_decode_phases :
    decode .qpel (bits "0110") = .ok .qpel12i 4 ∧ decode .qpel (bits "1001") = .ok .qpel21f 4 ∧
    decode .cpel (bits "001111") = .ok .cpel17 6 ∧ decode .cpel (bits "111000") = .ok .cpel70 6 := by decide

-- R152, 42_slice_header.md R304: (0, 2), (1, 0), (2, 0), 3
theorem test_decode_list_modification :
    decode .rplm (bits "1011") = .ok (.rplmSub 2) 4 ∧ decode .rplm (bits "0101") = .ok (.rplmAdd 0) 4 ∧
    decode .rplm (bits "0111") = .ok (.rplmLong 0) 4 ∧ decode .rplm (bits "00100") = .ok .rplmEnd 5 ∧
    decode .rplm (bits "00101") = .error .reserved 5 := by decide

-- R152, 42_slice_header.md R306
theorem test_decode_marking :
    decode .mmco (bits "010010") = .ok (.mmcoShortUnused 1) 6 ∧ decode .mmco (bits "0111") = .ok (.mmcoLongUnused 0) 4 ∧
    decode .mmco (bits "001001010") = .ok (.mmcoShortToLong 0 1) 9 ∧ decode .mmco (bits "00101011") = .ok (.mmcoMaxLongIdx 2) 8 ∧
    decode .mmco (bits "00110") = .ok .mmcoAllUnused 5 ∧ decode .mmco (bits "00111011") = .ok (.mmcoCurToLong 2) 8 ∧
    decode .mmco (bits "1") = .ok .mmcoEnd 1 ∧ decode .mmco (bits "0001000") = .error .reserved 7 := by decide

-- R153
theorem test_decode_map_and_poc_types :
    decode .sgMap (bits "00111") = .ok .sgmap6Explicit 5 ∧ decode .sgMap (bits "0001000") = .error .reserved 7 ∧
    decode .pocType (bits "1") = .ok .pocType0 1 ∧ decode .pocType (bits "00100") = .error .reserved 5 := by decide

/-! ## Parsing -/

-- V2.1: 30 is '000011111'; 2^32 - 2 is 31 zeros, a one and 31 ones
theorem test_ue_codewords :
    ueEncode 30 = bits "000011111" ∧ ueDecode (bits "0001111") = .ok 14 7 ∧
    ueDecode (List.replicate 31 false ++ List.replicate 32 true) = .ok 4294967294 63 := by decide

-- V2.4
theorem test_emulation_prevention :
    stripEpb 0 [0, 0, 3, 0, 0, 3, 0x80] = [0, 0, 0, 0, 0x80] ∧ stripEpb 0 [0, 0, 3, 3, 0x80] = [0, 0, 3, 0x80] ∧
    stripEpb 0 [0, 0, 0, 3, 0x80] = [0, 0, 0, 0x80] := by decide

-- V2.4
theorem test_stop_bit :
    (Br.ofRbsp [0x40, 1]).stopBit = some 15 ∧ (Br.ofRbsp [0x80, 0, 0]).stopBit = some 0 ∧
    (Br.ofRbsp [0, 0]).stopBit = none := by decide

-- V2.6: 7 bits at cursor 3 of A5 0F are 20
theorem test_read_bits :
    let t := got (exec (.descU 7) ((withRbsp [0xA5, 0x0F]).setBr { (withRbsp [0xA5, 0x0F]).br with cursor := 3 }))
    t.wk.elem = 20 ∧ t.br.cursor = 10 := by decide

-- V2.6: one bit past the end is E_BITS and the cursor stays
theorem test_read_past_end :
    let t := got (exec (.descU 1) ((withRbsp [0xA5, 0x0F]).setBr { (withRbsp [0xA5, 0x0F]).br with cursor := 16 }))
    t.csr.errCode = 1 ∧ t.br.cursor = 16 ∧ t.csr.errPos = 16 := by decide

-- V2.2: '00101' is -2, '00110' is 3
theorem test_se : (got (exec .descSe (withRbsp [0x28]))).wk.elem = -2 ∧ (got (exec .descSe (withRbsp [0x30]))).wk.elem = 3 := by
  decide

-- V2.3
theorem test_te :
    (got (exec (.descTe 1) (withRbsp [0x80]))).wk.elem = 0 ∧ (got (exec (.descTe 2) (withRbsp [0x60]))).wk.elem = 2 := by decide

-- V3.3: coeff_token '001' at nC = 0 is TotalCoeff 2, TrailingOnes 2; total_zeros '101' at 2 is 2
theorem test_ce :
    let t := got (exec (.descCe (.coeffToken 0)) (withRbsp [0x20]))
    t.wk.elem = 2 ∧ t.wk.elem2 = 2 ∧ (got (exec (.descCe (.totalZeros false 2)) (withRbsp [0xA0]))).wk.elem = 2 := by decide

-- V3.5: run_before '101' with 6 zeros left is 5
theorem test_run_before : (got (exec (.descCe (.runBefore 6)) (withRbsp [0xA0]))).wk.elem = 5 := by decide

/-- An engine that yields given bins, each checked against its context (400 terminate, 401 bypass). -/
def oracle : Engine (List (Nat × Nat)) :=
  let take (c : Nat) : EStateM ErrCode (List (Nat × Nat)) Nat := fun l =>
    match l with
    | (k, b) :: r => if k = c then .ok b r else .error .mark l
    | [] => .error .bits l
  ⟨take, take 401, take 400⟩

/-- The value of a binarization over the oracle that uses up its bins. -/
def bins {α : Type} (r : EStateM ErrCode (List (Nat × Nat)) α) (l : List (Nat × Nat)) : Option α :=
  match r l with
  | .ok v [] => some v
  | .ok _ (_ :: _) | .error _ _ => none

-- V4.1: I_16x16_0_2_1
theorem test_bins_mb_type_i :
    bins (decMbTypeISlice oracle 0) [(3, 1), (400, 0), (6, 1), (7, 1), (8, 1), (9, 0), (10, 0)] = some 21 := by decide

-- V4.2: I_16x16_2_0_0 in a P slice; V4.3: B_L1_Bi_8x16
theorem test_bins_mb_type_p_b :
    bins (decMbTypeP oracle) [(14, 1), (17, 1), (400, 0), (18, 0), (19, 0), (20, 1), (20, 0)] = some 8 ∧
    bins (decMbTypeB oracle 0) [(27, 1), (30, 1), (31, 1), (32, 0), (32, 0), (32, 1), (32, 1)] = some 15 := by decide

-- V4.4: B_Bi_4x8 is 9, P_L0_4x4 is 3
theorem test_bins_sub_type :
    bins (decSubMbTypeB oracle) [(36, 1), (37, 1), (38, 1), (39, 0), (39, 1), (39, 0)] = some 9 ∧
    bins (decSubMbTypeP oracle) [(21, 0), (22, 1), (23, 0)] = some 3 := by decide

-- V4.5: -5; V4.7: -2
theorem test_bins_mvd_qp :
    bins (decMvd oracle 0 0) [(40, 1), (43, 1), (44, 1), (45, 1), (46, 1), (46, 0), (401, 1)] = some (-5) ∧
    bins (decQpDelta oracle 0) [(60, 1), (62, 1), (63, 1), (63, 1), (63, 0)] = some (-2) := by decide

-- V4.10: coeffLevel[0] = 3, coeffLevel[2] = -1 in category 2
theorem test_bins_residual :
    bins (decResidual oracle 2 16 (some 96)) [(96, 1), (134, 1), (195, 0), (135, 0), (136, 1), (197, 1), (248, 0), (401, 1),
      (249, 1), (252, 1), (252, 0), (401, 0)] =
      some ([3, 0, -1] ++ List.replicate 13 0, true) := by decide

/-! ## Commands, registers, errors -/

-- 10_state.md R72: a reference frame only loses its hold; an unmarked one is freed
theorem test_release_reference :
    let s := State.reset.setFs [{ Frame.free with inUse := true, held := true, mark := .shortTerm }]
    let f := (got (exec .release s)).frame 0
    f.held = false ∧ f.inUse = true := by decide

theorem test_release_frees :
    let s := State.reset.setFs [{ Frame.free with inUse := true, held := true }]
    let f := (got (exec .release s)).frame 0
    f.held = false ∧ f.inUse = false := by decide

-- 70_reset_and_hazards.md R851: what a memory byte holds survives, BUSY does not
theorem test_srst :
    let t := got (exec .srst ((State.reset.setMem [(7, 9)]).setCsr { Csr.reset with busy := true, errCode := 4 }))
    t.mem = [(7, 9)] ∧ t.csr.busy = false ∧ t.csr.errCode = 0 := by decide

-- 40_bitreader_nal.md R220 step 2: an empty NAL unit is E_BITS
theorem test_nal_empty :
    let t := got (exec .nal State.reset)
    t.csr.errCode = 1 ∧ t.csr.busy = true ∧ t.au.ended = false := by decide

-- 43_slice_fsm.md R390 step 2: a failed access unit
theorem test_au_end_failed : (got (exec .auEnd (State.reset.setAu { Au.reset with failed := true }))).csr.auErr = true := by decide

-- 60_exceptions.md R824: after an IDR picture's failed access unit the reference pools are those before it
theorem test_failed_idr_keeps_pools :
    let s := ((State.reset.setFs [{ Frame.free with inUse := true }, Frame.free]).setAu { Au.reset with failed := true, curFrame := some 0 }).setSavedPools
      (some ⟨[.unused, .longTerm], some 0⟩)
    let t := got (exec .auEnd s)
    (t.frame 0).inUse = false ∧ (t.frame 1).mark = .longTerm ∧ (t.frame 1).inUse = true ∧ t.maxLongTermFrameIdx = some 0 := by decide

-- 10_state.md R67: bits 31:8 of OUT_FRAME are 0
theorem test_out_frame : (State.reset.outputFrame 300).csr.outFrame = 44 := by rfl

-- 70_reset_and_hazards.md R866 item 3: the frame written back is the one output, not the one whose handle has the same low bits
theorem test_newly_output :
    let s := State.reset.outputFrame 300
    s.newlyOutput 300 = true ∧ s.newlyOutput 44 = false := by constructor <;> rfl

-- 10_state.md R48: at the start of an access unit no macroblock is decoded
theorem test_start_clears_decoded :
    ((State.reset.setAu { Au.reset with mbInfo := [{ MbInfo.fresh with decoded := true }] }).startAu.mbInfoAt 0).decoded = false := by decide

-- 42_slice_header.md R307: an inferred count of 17 entries is E_INVALID, in an I slice too
theorem test_inferred_counts :
    ([0, 1, 2, 3, 4].all fun t => [15, 16].all fun d =>
      match readNumRefIdx { SliceHdr.empty with sliceType := t, pps := { Pps.empty with numRefIdxL1DefaultMinus1 := d } } (withRbsp [0]).ps with
      | .ok _ _ => decide (d = 15)
      | .error e _ => decide (d = 16 ∧ e = .invalid)) = true := by decide

-- 70_reset_and_hazards.md R866 item 4: a frame in use that is not held is not read, nor an output frame that has been released
theorem test_frame_read_refused :
    hostMemRead 0 (State.reset.setFs [{ Frame.free with inUse := true }]) = .refused .frameBufferRead ∧
    hostMemRead 0 ((State.reset.setFs [Frame.free]).setDbk [{ Dbk.empty with handedOver := true }]) = .refused .frameBufferRead := by
  constructor <;> rfl

-- a held frame is read, and so is a free buffer, in which the host finds what it wrote (20_memory.md R100, R112)
theorem test_frame_read :
    (got (hostMemRead 5 ((State.reset.setFs [{ Frame.free with inUse := true, held := true }]).setMem [(5, 7)]))).bus.lastRead = 7 ∧
    (got (hostMemRead 5 (State.reset.setMem [(5, 7)]))).bus.lastRead = 7 := by constructor <;> rfl

-- 41_parameter_sets.md R263: absent lists 8 and 9 take lists 6 and 7, so the coded list 7 is list 9's and not list 8's
theorem test_scaling_fallback :
    let l := resolveLists defaultList (List.replicate 7 .absent ++ [.coded (List.replicate 64 9)])
    l.length = 12 ∧ l.getD 8 [] = default8x8Intra ∧ l.getD 9 [] = List.replicate 64 9 ∧ l.getD 11 [] = List.replicate 64 9 := by decide

-- 10_state.md R65: ERR_CODE = 4 and FSM Complete read 0x00040008 (95_test_vectors.md P5)
theorem test_status_word : Csr.statusWord { Csr.reset with errCode := 4, fsm := .complete } = 0x00040008 := by decide

-- 95_test_vectors.md P5: ERR_INFO is 0x0000FFFF outside Decoding
theorem test_error_info :
    let t := (State.reset.setCsr { Csr.reset with fsm := .created, busy := true }).raise .psMissing
    t.csr.errInfo = 0x0000FFFF ∧ t.csr.errCode = 4 ∧ t.au.failed = true ∧ t.csr.sliceErr = false ∧ t.tasks = [.nalDone] := by decide

-- 30_encoding.md R145, D48
theorem test_forbidden_bit : (got (exec (.nalForbidden 0x65) State.reset)).csr.errCode = 2 := by decide

-- 95_test_vectors.md P1: the SPS bytes 42 00 1E F4 F2 give one macroblock, one reference frame
theorem test_sps :
    let s := (State.reset.setCsr { Csr.reset with nalLen := 6 }).setMem [(1, 0x42), (2, 0), (3, 0x1E), (4, 0xF4), (5, 0xF2)]
    ((got (exec (.nalSps 3) s)).sps.getD 0 none).map (fun p => (p.profileIdc, p.maxNumRefFrames, p.widthInMbsMinus1, p.direct8x8Inference))
      = some (66, 1, 0, true) := by decide

-- 95_test_vectors.md P1: the PPS bytes CE 38 80
theorem test_pps :
    let s := (State.reset.setCsr { Csr.reset with nalLen := 4 }).setMem [(1, 0xCE), (2, 0x38), (3, 0x80)]
    ((got (exec (.nalPps 3) s)).pps.getD 0 none).map (fun p => (p.spsId, p.cabac, p.numSliceGroupsMinus1, p.picInitQpMinus26))
      = some (0, false, 0, 0) := by decide

/-! ## Slices -/

-- 43_slice_fsm.md R367: group 0 is at 0, 3 and 4
theorem test_next_mb_address : nextMbAddress [0, 1, 1, 0, 0] 5 0 = some 3 ∧ nextMbAddress [0, 1, 1, 0, 0] 5 4 = none := by decide

-- 43_slice_fsm.md R366 type 1 with two groups, four wide, two high: a chequerboard
theorem test_map_dispersed :
    (got (exec .sgmap1Dispersed (withHdr fun h => { h with
      sps := { h.sps with widthInMbsMinus1 := 3, heightInMapUnitsMinus1 := 1 }, pps := { h.pps with numSliceGroupsMinus1 := 1 } }))).au.map
      = [0, 1, 0, 1, 1, 0, 1, 0] := by decide

-- R366 type 0 with run lengths 2 and 1
theorem test_map_interleaved :
    (got (exec .sgmap0Interleaved (mapHdr (withHdr fun h => { h with sps := { h.sps with widthInMbsMinus1 := 4 } }) fun h =>
      { h with pps := { h.pps with numSliceGroupsMinus1 := 1, runLengthMinus1 := [1, 0] } }))).au.map = [0, 0, 1, 0, 0] := by decide

-- R368: box-out on a 3x3 picture starts at its centre
theorem test_map_box_out :
    (got (exec .sgmap3BoxOut (mapHdr (withHdr fun h => { h with groupChangeCycle := 1 }) fun h => { h with
      sps := { h.sps with widthInMbsMinus1 := 2, heightInMapUnitsMinus1 := 2 }, pps := { h.pps with numSliceGroupsMinus1 := 1 } }))).au.map = [1, 1, 1, 1, 0, 1, 1, 1, 1] := by decide

-- V9.1: lsb 0 after lsb 12 wraps to msb 16; V9.3: a non-reference picture with frame_num 2 has POC 3
theorem test_poc_0 :
    (got (exec .pocType0 ((withHdr fun h => { h with nalType := 1 }).setAu { Au.reset with prevPocLsb := 12 }))).wk.topPoc = 16 := by decide
theorem test_poc_2 : (got (exec .pocType2 (withHdr fun h => { h with nalType := 1, frameNum := 2 }))).wk.topPoc = 3 := by decide

-- V9.2: frame_num 3, not a reference: POC 1
theorem test_poc_1 :
    (got (exec .pocType1 (withHdr fun h => { h with nalType := 1, frameNum := 3, sps := { h.sps with pocType := 1, offsetForRefFrame := [4, 2], offsetForNonRefPic := -5 } }))).wk.topPoc = 1 := by decide

/-! ## Macroblock types (44_mb_syntax.md R440-R444) -/

-- R441: I_16x16_0_2_1 is mode 0, chroma 2, luma 15
theorem test_i16x16_type :
    let t := got (exec .i_16x16_0_2_1 State.reset)
    t.wk.cur.cbpLuma = 15 ∧ t.wk.cur.cbpChroma = 2 ∧ i16Mode 20 = 0 := by decide

-- R443: B_L1_Bi_8x16 is two partitions 8x16, list 1, then both
theorem test_b_partitions :
    (partsOf (.b 15) []).map (fun q => (q.x, q.y, q.w, q.h, q.use0, q.use1)) = [(0, 0, 8, 16, false, true), (8, 0, 8, 16, true, true)] := by
  decide

-- R444: B_Bi_8x4 in the first place is two 8x4 parts with both lists
theorem test_sub_partitions :
    ((partsOf (.b 22) [.b 8, .b 1, .b 1, .b 1]).take 2).map (fun q => (q.x, q.y, q.w, q.h, q.use0, q.use1))
      = [(0, 0, 8, 4, true, true), (0, 4, 8, 4, true, true)] := by decide

theorem test_b8x8_queues_sub_types :
    (got (exec .b8x8 State.reset)).tasks = List.replicate 4 (.fetch .subB) ++ [.mbRest] := by decide

theorem test_sub_type_kept : (got (exec .subBBi_4x4 (withWk fun w => { w with subIdx := 3 }))).mb.subTypes.getD 3 (.p 0) = .b 12 := by decide

-- 44_mb_syntax.md R452: the ends of both columns
theorem test_me_tables : meIntra.getD 0 0 = 47 ∧ meIntra.getD 47 0 = 41 ∧ meInter.getD 0 9 = 0 ∧ meInter.getD 47 0 = 41 := by decide

-- 43_slice_fsm.md R378: 50 + 4 is 2 modulo 52
theorem test_qp_wraps : ((State.reset.setDs { Ds.reset with qpY := 50 }).updQp 4).ds.qpY = 2 := by decide

/-! ## Prediction and residual -/

/-- The neighbours of V5.1. -/
def nb51 : IntraNb := ⟨true, true, true, [10, 20, 30, 40, 50, 60, 70, 80], [15, 25, 35, 45], 100⟩

-- V5.1, rows 0 to 3
theorem test_intra4x4_right_modes :
    block 4 4 (predDiagDownRight nb51) = [56, 35, 20, 30, 39, 56, 35, 20, 25, 39, 56, 35, 35, 25, 39, 56] ∧
    block 4 4 (predVerticalRight nb51) = [55, 15, 25, 35, 56, 35, 20, 30, 39, 55, 15, 25, 25, 56, 35, 20] ∧
    block 4 4 (predHorizontalDown nb51) = [58, 56, 35, 20, 20, 39, 58, 56, 30, 25, 20, 39, 40, 35, 30, 25] := by decide

theorem test_intra4x4_left_modes :
    block 4 4 (predDiagDownLeft 4 nb51) = [20, 30, 40, 50, 30, 40, 50, 60, 40, 50, 60, 70, 50, 60, 70, 78] ∧
    block 4 4 (predVerticalLeft nb51) = [15, 25, 35, 45, 20, 30, 40, 50, 25, 35, 45, 55, 30, 40, 50, 60] ∧
    block 4 4 (predHorizontalUp 4 nb51) = [20, 25, 30, 35, 30, 35, 40, 43, 40, 43, 45, 45, 45, 45, 45, 45] := by decide

theorem test_intra4x4_plain_modes :
    predVertical nb51 2 3 = 30 ∧ predHorizontal nb51 2 3 = 45 ∧ predDc 2 nb51 0 0 = 28 ∧
    predDc 2 { nb51 with hasLeft := false } 0 0 = 25 ∧ predDc 2 { nb51 with hasTop := false } 0 0 = 30 := by decide

/-- The neighbours of V5.4 before filtering. -/
def nb54 : IntraNb :=
  ⟨true, true, true, [0, 1, 4, 9, 16, 25, 36, 49, 64, 81, 100, 121, 144, 169, 196, 225], [200, 190, 180, 170, 160, 150, 140, 130], 50⟩

theorem test_intra8x8_filter :
    nb54.filter8.top = [13, 2, 5, 10, 17, 26, 37, 50, 65, 82, 101, 122, 145, 170, 197, 218] ∧
    nb54.filter8.left = [160, 190, 180, 170, 160, 150, 140, 133] ∧ nb54.filter8.corner = 75 := by decide

-- V5.5, column 0
theorem test_intra8x8_modes :
    (List.range 8).map (predVerticalRight nb54.filter8 0) = [44, 81, 146, 180, 180, 170, 160, 150] ∧
    (List.range 8).map (predHorizontalUp 8 nb54.filter8 0) = [175, 185, 175, 165, 155, 145, 137, 133] ∧
    (List.range 8).map (predVerticalLeft nb54.filter8 0) = [8, 6, 4, 6, 8, 11, 14, 18] ∧ predDc 3 nb54.filter8 0 0 = 90 := by decide

/-- The neighbours of V5.6. -/
def nb56 : IntraNb :=
  ⟨true, true, true, (List.range 16).map (fun (x : Nat) => 2 * x + 20), (List.range 16).map (fun (y : Nat) => 3 * y + 40), 17⟩

theorem test_intra16x16_plane :
    predPlane 8 5 nb56 0 0 = 30 ∧ predPlane 8 5 nb56 15 0 = 60 ∧ predPlane 8 5 nb56 0 15 = 81 ∧ predPlane 8 5 nb56 15 15 = 111 ∧
    predDc 4 nb56 0 0 = 49 := by decide

/-- The neighbours of V5.7. -/
def nb57 : IntraNb :=
  ⟨true, true, true, (List.range 8).map (fun (x : Nat) => 10 * x + 5), (List.range 8).map (fun (y : Nat) => 100 - 4 * y), 60⟩

theorem test_chroma_plane :
    (List.range 8).map (fun x => predPlane 4 34 nb57 x 7) = [52, 58, 64, 69, 75, 81, 86, 92] := by decide

-- V5.8
theorem test_chroma_dc :
    predChromaDc nb57 0 0 = 57 ∧ predChromaDc nb57 4 0 = 60 ∧ predChromaDc nb57 0 4 = 78 ∧ predChromaDc nb57 4 4 = 69 := by decide

-- V5.9
theorem test_illegal_mode :
    (got (exec .intra4x4Vertical (State.reset.setCsr { Csr.reset with fsm := .decoding }))).csr.errCode = 2 := by decide

/-- The luma reference of section 7, without its edges. -/
def luma7 : Samples := fun x y => (37 * x + 11 * y * y + 5 * x * y) % 256

-- V7.2
theorem test_luma_phases :
    [phase00, phase01, phase02, phase03, phase10, phase11, phase12, phase13, phase20, phase21, phase22, phase23, phase30, phase31,
      phase32, phase33].map (fun f => f luma7 6 6) = [30, 68, 106, 155, 31, 69, 68, 109, 32, 31, 30, 71, 65, 24, 23, 63] := by decide

-- V7.9
theorem test_chroma_phases :
    let r : Samples := fun x y => (19 * x + 23 * y + x * y) % 256
    chromaPhase 4 0 r 2 2 = 99 ∧ chromaPhase 0 4 r 2 2 = 101 ∧ chromaPhase 1 7 r 2 2 = 113 ∧ chromaPhase 3 5 r 2 2 = 112 ∧
    chromaPhase 7 7 r 2 2 = 129 := by decide

-- V7.4: the phase of (-3, 5) is (1, 1)
theorem test_phase_selection : lumaPhaseOf ⟨-3, 5⟩ = 5 ∧ chromaPhaseOf ⟨-3, -3⟩ = 45 := by decide

-- V6.2, V6.3, V6.5
theorem test_weights :
    weightOne 5 40 (-3) 100 = 122 ∧ weightOne 7 (-128) 127 200 = 0 ∧ weightBoth ⟨5, 48, 4, 16, -1⟩ 100 50 = 90 ∧
    distScale 2 4 = 128 ∧ scaleMv 128 (-7) = -3 := by decide

-- V8.2: L[0] = -3 at qP 20 gives d = -312, r = -5
theorem test_idct4x4_floor :
    let t := got (exec .idct4x4 (withWk fun w => { w with qp := 20, lvl := -3 :: List.replicate 15 0 }))
    t.wk.coef.getD 0 0 = -312 ∧ t.wk.res = List.replicate 16 (-5) := by decide

-- V8.5
theorem test_idct4x4 :
    (got (exec .idct4x4 (withWk fun w => { w with qp := 30, lvl := [5, -2, 3, 0, 0, 1] ++ List.replicate 10 0 }))).wk.res =
      [37, 33, 46, 63, 27, 23, 36, 53, 7, 4, 17, 33, -2, -6, 7, 24] := by decide

-- V8.6
theorem test_chroma_ac :
    ((got (exec .chromaAc (withWk fun w => { w with qp := 26, lvl := [52, 1] ++ List.replicate 14 0 }))).wk.res).take 4 = [5, 3, -1, -3] := by
  decide

-- V8.1: qP 23
theorem test_dequant : (got (exec .dequantBranches (withWk fun w => { w with qp := 23, lvl := 1 :: List.replicate 15 0 }))).wk.coef.getD 0 0 = 144 := by
  decide

-- V8.7
theorem test_luma_dc :
    (got (exec .lumaDc4x4 (withWk fun w => { w with qp := 26, lvl := [0, 1] ++ List.replicate 14 0 }))).wk.dcY =
      [52, 52, -52, -52, 52, 52, -52, -52, 52, 52, -52, -52, 52, 52, -52, -52] := by decide

-- V8.8
theorem test_chroma_dc_transform :
    (got (exec .chromaDc2x2 (withWk fun w => { w with qp := 29, lvl := [3, -1, 2, 0] }))).wk.dcC = [576, 864, 0, 288] := by decide

-- V8.10
theorem test_idct8x8 :
    ((got (exec .idct8x8 (withWk fun w => { w with qp := 30, lvl := [0, 1] ++ List.replicate 62 0 }))).wk.res).take 8 =
      [4, 3, 2, 1, -1, -2, -3, -4] := by decide +kernel

-- V8.11
theorem test_zero_block : (got (exec .zeroBlock (withWk fun w => { w with qp := 51 }))).wk.res = List.replicate 16 0 := by decide

-- V8.1: qP 51, DC only
theorem test_dc_only : (got (exec .dcOnly4x4 (withWk fun w => { w with qp := 51, lvl := 1 :: List.replicate 15 0 }))).wk.res = List.replicate 16 56 := by
  decide

-- V8.12
theorem test_recon_clip :
    (((got (exec .reconClip (withWk fun w => { w with predY := 250 :: 3 :: List.replicate 254 128, res := 56 :: -5 :: List.replicate 14 1 }))).mb.reconY).take 3)
      = [255, 0, 129] := by decide +kernel

/-! ## Reference lists and marking -/

/-- Three short-term frames with frame numbers 0 to 2 and a long-term frame with index 0 (V9.4). -/
def four : List Frame :=
  [{ Frame.free with inUse := true, mark := .shortTerm }, { Frame.free with inUse := true, mark := .shortTerm, frameNum := 1 },
   { Frame.free with inUse := true, mark := .shortTerm, frameNum := 2 }, { Frame.free with inUse := true, mark := .longTerm }]

/-- The state of V9.9 with V9.4's frames, list 0 started. -/
def lists9 : State :=
  ((withHdr fun h => { h with frameNum := 3, sps := { h.sps with maxNumRefFrames := 4 } }).setFs four).setWk
    { Wk.reset with rplmList := [some 2, some 1, some 0, none], picNumPred := 3 }

-- V9.4
theorem test_initial_list :
    ((initLists four lists9.hdr 0).1 = [2, 1, 0, 3]) ∧ fitList 6 [2, 1, 0, 3] = [some 2, some 1, some 0, some 3, none, none] := by decide

-- V9.6, V9.7
theorem test_initial_b_lists :
    let f (p : Int) : Frame := { Frame.free with inUse := true, mark := .shortTerm, poc := p }
    let h := { SliceHdr.empty with sliceType := 1 }
    initLists [f 0, f 8, f 4] h 6 = ([2, 0, 1], [1, 2, 0]) ∧ initLists [f 0, f 4] h 6 = ([1, 0], [0, 1]) := by decide

-- V9.9: (0, 2) moves FS0 to the front
theorem test_rplm_sub :
    let t := got (exec (.rplmSub 2) lists9)
    t.wk.rplmList.take 3 = [some 0, some 2, some 1] ∧ t.wk.picNumPred = 0 ∧ t.wk.rplmIdx = 1 := by decide

-- V9.9: then (1, 0) moves FS1 to position 1
theorem test_rplm_add :
    (got (exec (.rplmAdd 0) (got (exec (.rplmSub 2) lists9)))).wk.rplmList.take 3 = [some 0, some 1, some 2] := by decide

-- V9.9: (0, 4) names no frame, (0, 16) is out of range
theorem test_rplm_invalid :
    (got (exec (.rplmSub 4) lists9)).csr.errCode = 2 ∧ (got (exec (.rplmSub 16) lists9)).csr.errCode = 2 := by decide

-- V9.9: (2, 0) moves FS3 to the front, (2, 1) names none
theorem test_rplm_long :
    (got (exec (.rplmLong 0) (lists9.setWk { lists9.wk with rplmList := [some 2, some 1, none] }))).wk.rplmList.take 2 = [some 3, some 2] ∧
    (got (exec (.rplmLong 1) lists9)).csr.errCode = 2 := by decide

theorem test_rplm_end : ((got (exec .rplmEnd lists9)).sl.map fun h => h.list0) = some [some 2, some 1, some 0] := by decide

/-- A slice header of a reference picture with frame_num 3. -/
def firstHdr : SliceHdr :=
  { SliceHdr.empty with nalType := 1, nalRefIdc := 1, frameNum := 3, adaptiveMarking := true, sps := { Sps.empty with maxNumRefFrames := 5 } }

/-- The frames of V9.4 at an AU_END of frame 4 with frame_num 3. -/
def marking : State :=
  (State.reset.setFs (four ++ [{ Frame.free with inUse := true, frameNum := 3, topPoc := 8, bottomPoc := 9, poc := 8 }])).setAu
    { Au.reset with curFrame := some 4, firstSlice := some firstHdr }

-- V9.10: difference 1 from frame_num 3 names frame_num 1
theorem test_mmco1 :
    let t := got (exec (.mmcoShortUnused 1) marking)
    (t.frame 1).mark = .unused ∧ (t.frame 1).inUse = false ∧ (t.frame 0).mark = .shortTerm := by decide

theorem test_mmco2 : ((got (exec (.mmcoLongUnused 0) marking)).frame 3).mark = .unused := by decide

-- V9.10: with MaxLongTermFrameIdx 1, (3, 0, 1) makes PicNum 2 long-term with index 1
theorem test_mmco3 :
    let f := (got (exec (.mmcoShortToLong 0 1) (marking.setMaxLong (some 1)))).frame 2
    f.mark = .longTerm ∧ f.longTermFrameIdx = 1 := by decide

theorem test_mmco4 :
    let t := got (exec (.mmcoMaxLongIdx 0) (marking.setMaxLong (some 1)))
    t.maxLongTermFrameIdx = none ∧ (t.frame 3).mark = .unused := by decide

theorem test_mmco5 :
    let t := got (exec .mmcoAllUnused marking)
    (t.frame 4).hadMmco5 = true ∧ t.marked = [] := by decide

-- V9.10: index 2 above the maximum is skipped and recorded as E_MARK
theorem test_mmco6_error :
    let t := got (exec (.mmcoCurToLong 2) (marking.setMaxLong (some 1)))
    t.csr.errCode = 6 ∧ (t.frame 4).mark = .unused := by decide

-- V9.10: after operation 5 the POC and the frame number are 0
theorem test_mmco_end :
    let f := (got (exec .mmcoEnd (got (exec .mmcoAllUnused marking)))).frame 4
    f.mark = .shortTerm ∧ f.poc = 0 ∧ f.frameNum = 0 ∧ f.bottomPoc = 1 := by decide

/-! ## The host's words -/

theorem test_table_word : decodeTableWord 32 8 = some .release ∧ decodeTableWord 8 0x67 = some (.nalSps 3) := by decide

theorem test_fetch_word : (step (State.reset.withFetchWord 32 4) = exec .auEnd State.reset) := by rfl

/-! ## Witnesses: states and operands that meet the hypotheses of the statements, clause by clause -/

/-- The reset state with one piece of work and the completion of its command to do. -/
def ready (k : Task) : State := State.reset.setTasks [k, .nalDone]

/-- The same with a slice header and bits at the cursor. -/
def readySlice (k : Task) (l : List Nat) (f : SliceHdr → SliceHdr) : State :=
  (((withRbsp l).setSl (some (f SliceHdr.empty))).setCsr { Csr.reset with fsm := .decoding, busy := true }).setTasks [k, .nalDone]

theorem ready_due (k : Task) : (ready k).due k [.nalDone] := ⟨rfl, rfl⟩
theorem readySlice_due (k : Task) (l : List Nat) (f : SliceHdr → SliceHdr) : (readySlice k l f).due k [.nalDone] := ⟨rfl, rfl⟩

/-- A reader succeeds with a value that passes a test. -/
def okWith {ε σ α : Type} (r : EStateM.Result ε σ α) (q : α → σ → Bool) : Bool :=
  match r with
  | .ok v p => q v p
  | .error _ _ => false

theorem okWith_spec {ε σ α : Type} {r : EStateM.Result ε σ α} {q : α → σ → Bool} (h : okWith r q = true) :
    ∃ v p, r = .ok v p ∧ q v p = true := by
  cases r with
  | ok v p => exact ⟨v, p, rfl, h⟩
  | error e p => cases h

/-- A reader fails with an error that passes a test. -/
def errWith {ε σ α : Type} (r : EStateM.Result ε σ α) (q : ε → σ → Bool) : Bool :=
  match r with
  | .ok _ _ => false
  | .error e p => q e p

theorem errWith_spec {ε σ α : Type} {r : EStateM.Result ε σ α} {q : ε → σ → Bool} (h : errWith r q = true) :
    ∃ e p, r = .error e p ∧ q e p = true := by
  cases r with
  | ok v p => cases h
  | error e p => exact ⟨e, p, rfl, h⟩

theorem witness_DecodeInvertsEncode :
    WellFormed (.mmcoShortToLong 4294967294 4294967294) = true ∧ WellFormed (.descTe 1) = true ∧
    WellFormed (.descCe (.coeffToken (-1))) = true ∧ WellFormed .cpel77 = true := by decide

theorem witness_ReservedCodesRefused :
    4294967294 < 2 ^ 32 - 1 ∧ Space.mmco ∈ [Space.sliceType, .mbI, .mbP, .mbB, .subP, .subB, .chromaMode, .sgMap, .pocType, .rplm, .mmco] := by
  decide

theorem witness_StopBitIsLastSetBit : (Br.ofRbsp [0x40, 0x01, 0]).stopBit = some 15 := by decide

/-! StepRunsTheDecodedOperation -/

theorem witness_step_op :
    (ready (.op .i4Mode 8)).due (.op .i4Mode 8) [.nalDone] ∧ decode .i4Mode (codeBits .i4Mode 8) = .ok .intra4x4HorizontalUp 4 :=
  ⟨ready_due _, by decide⟩

theorem witness_step_nalHdr :
    let s := (ready (.fetch .nalHdr)).setMem [(0, 0x67)]
    s.due (.fetch .nalHdr) [.nalDone] ∧ decode .nalHdr (natToBits 8 (s.byteAt s.csr.nalAddr.toNat).toNat) = .ok (.nalSps 3) 8 :=
  ⟨⟨rfl, rfl⟩, by decide⟩

theorem witness_step_mb :
    let s := readySlice (.fetch .mbB) [0x06, 0x20] id
    s.due (.fetch .mbB) [.nalDone] ∧ s.hdr.pps.cabac = false ∧ decode .mbB (s.br.window 64) = .ok .bIPcm 11 :=
  ⟨⟨rfl, rfl⟩, by decide⟩

theorem witness_step_mb_reserved :
    let s := readySlice (.fetch .mbB) [0x06, 0x40] id
    s.due (.fetch .mbB) [.nalDone] ∧ s.hdr.pps.cabac = false ∧ decode .mbB (s.br.window 64) = .error .reserved 11 :=
  ⟨⟨rfl, rfl⟩, by decide⟩

theorem witness_step_mb_truncated :
    let s := readySlice (.fetch .subP) [] id
    s.due (.fetch .subP) [.nalDone] ∧ s.hdr.pps.cabac = false ∧ decode .subP (s.br.window 64) = .error .truncated 0 :=
  ⟨⟨rfl, rfl⟩, by decide⟩

theorem witness_step_sliceType :
    let s := readySlice (.fetch .sliceType) [0x10] id
    s.due (.fetch .sliceType) [.nalDone] ∧ decode .sliceType (s.br.window 64) = .ok .sliceIAll 7 := ⟨⟨rfl, rfl⟩, by decide⟩

theorem witness_step_desc : (ready (.fetch (.desc .ue))).due (.fetch (.desc .ue)) [.nalDone] := ready_due _
theorem witness_step_skips :
    (ready (.fetch .skipP)).due (.fetch .skipP) [.nalDone] ∧ (ready (.fetch .skipB)).due (.fetch .skipB) [.nalDone] :=
  ⟨ready_due _, ready_due _⟩

theorem witness_step_rplm :
    (ready (.fetch .rplm)).due (.fetch .rplm) [.nalDone] ∧ decode .rplm (nextRplm (ready (.fetch .rplm)).wk).1 = .ok .rplmEnd 5 :=
  ⟨ready_due _, by decide⟩

theorem witness_step_mmco :
    (ready (.fetch .mmco)).due (.fetch .mmco) [.nalDone] ∧ decode .mmco (nextMmco (ready (.fetch .mmco)).wk).1 = .ok .mmcoEnd 1 :=
  ⟨ready_due _, by decide⟩

theorem witness_step_host :
    (State.reset.setHost [(0, .memRead 4294967295)]).host = (0, .memRead 4294967295) :: [] := rfl

/-- With the widest range and no offset, a decision is its context's most probable symbol, whatever the OPEN tables hold. -/
theorem decision_mps (c : Nat) (p : Ps) (ho : p.cabac.offset = 0) (hr : p.cabac.range = 511) :
    ∃ q, decodeDecision c p = .ok (p.cabac.ctx.getD c ⟨0, 0⟩).valMps q := by
  have h1 : ∀ l : BitVec 8, ¬ (511#9 - l.setWidth 9 = 0#9) ∧ ¬ (511#9 - l.setWidth 9 < 256#9) := by decide
  obtain ⟨h1, h2⟩ := h1 (Config.rangeTabLps (p.cabac.ctx.getD c ⟨0, 0⟩).pStateIdx 3)
  simp only [List.getD_eq_getElem?_getD] at h1 h2 ⊢
  simp [decodeDecision, Ctx.rangeLps, renorm, bind, EStateM.bind, get, getThe, MonadStateOf.get, EStateM.get, modify, modifyGet,
    MonadStateOf.modifyGet, EStateM.modifyGet, pure, EStateM.pure, ho, hr, h1, h2]

/-- With the range and the largest offset of a start and no bits left, a decision meets the end of the RBSP. -/
theorem decision_end (c : Nat) (p : Ps) (ho : p.cabac.offset = 511) (hr : p.cabac.range = 510) (hb : p.br = Br.reset) :
    ∃ q, decodeDecision c p = .error .bits q := by
  have h1 : ∀ l : BitVec 8, 510#9 - l.setWidth 9 ≤ 511#9 ∧ l.setWidth 9 < 256#9 := by decide
  obtain ⟨h1, h2⟩ := h1 (Config.rangeTabLps (p.cabac.ctx.getD c ⟨0, 0⟩).pStateIdx 3)
  simp only [List.getD_eq_getElem?_getD] at h1 h2 ⊢
  simp [decodeDecision, Ctx.rangeLps, renorm, readBits, bind, EStateM.bind, get, getThe, MonadStateOf.get, EStateM.get, modify, modifyGet,
    MonadStateOf.modifyGet, EStateM.modifyGet, ho, hr, hb, h1, h2, Br.reset]

/-- A CABAC slice whose engine yields most probable symbols, or ends at once. -/
def cabacSlice (k : Task) (sliceType : Nat) (range offset : BitVec 9) : State :=
  (((ready k).setSl (some { SliceHdr.empty with sliceType := sliceType, pps := { Pps.empty with cabac := true } })).setCabac
    { Cabac.reset with range := range, offset := offset })

theorem witness_step_cabac_mb :
    let s := cabacSlice (.fetch .mbI) 2 511 0
    s.due (.fetch .mbI) [.nalDone] ∧ s.hdr.pps.cabac = true ∧
    (∃ p, aeMbType (s.taken [.nalDone]) s.ps = .ok 0 p) ∧ decode .mbI (codeBits .mbI 0) = .ok .iNxN 1 := by
  refine ⟨⟨rfl, rfl⟩, rfl, ?_, by decide⟩
  obtain ⟨q, hq⟩ := decision_mps (3 + 0) (cabacSlice (.fetch .mbI) 2 511 0).ps rfl rfl
  refine ⟨q, ?_⟩
  have hm : aeMbType ((cabacSlice (.fetch .mbI) 2 511 0).taken [.nalDone]) = decMbTypeISlice engine 0 := rfl
  rw [hm]
  simp only [decMbTypeISlice, decMbTypeI, bind, EStateM.bind]
  have he : engine.decision (3 + 0) (cabacSlice (.fetch .mbI) 2 511 0).ps = decodeDecision (3 + 0) (cabacSlice (.fetch .mbI) 2 511 0).ps := rfl
  rw [he, hq]
  rfl

theorem witness_step_cabac_sub :
    let s := cabacSlice (.fetch .subB) 1 511 0
    s.due (.fetch .subB) [.nalDone] ∧ s.hdr.pps.cabac = true ∧
    (∃ p, aeSubMbType (s.taken [.nalDone]) s.ps = .ok 0 p) ∧ decode .subB (codeBits .subB 0) = .ok .subBDirect_8x8 1 := by
  refine ⟨⟨rfl, rfl⟩, rfl, ?_, by decide⟩
  obtain ⟨q, hq⟩ := decision_mps 36 (cabacSlice (.fetch .subB) 1 511 0).ps rfl rfl
  refine ⟨q, ?_⟩
  have hm : aeSubMbType ((cabacSlice (.fetch .subB) 1 511 0).taken [.nalDone]) = decSubMbTypeB engine := rfl
  rw [hm]
  simp only [decSubMbTypeB, bind, EStateM.bind]
  have he : engine.decision 36 (cabacSlice (.fetch .subB) 1 511 0).ps = decodeDecision 36 (cabacSlice (.fetch .subB) 1 511 0).ps := rfl
  rw [he, hq]
  rfl

theorem witness_step_cabac_error :
    let s := cabacSlice (.fetch .mbI) 2 510 511
    s.due (.fetch .mbI) [.nalDone] ∧ s.hdr.pps.cabac = true ∧ ∃ p, aeMbType (s.taken [.nalDone]) s.ps = .error .bits p := by
  refine ⟨⟨rfl, rfl⟩, rfl, ?_⟩
  obtain ⟨q, hq⟩ := decision_end (3 + 0) (cabacSlice (.fetch .mbI) 2 510 511).ps rfl rfl rfl
  refine ⟨q, ?_⟩
  have hm : aeMbType ((cabacSlice (.fetch .mbI) 2 510 511).taken [.nalDone]) = decMbTypeISlice engine 0 := rfl
  rw [hm]
  simp only [decMbTypeISlice, decMbTypeI, bind, EStateM.bind]
  have he : engine.decision (3 + 0) (cabacSlice (.fetch .mbI) 2 510 511).ps = decodeDecision (3 + 0) (cabacSlice (.fetch .mbI) 2 510 511).ps := rfl
  rw [he, hq]

theorem witness_step_cabac_sub_error :
    let s := cabacSlice (.fetch .subB) 1 510 511
    s.due (.fetch .subB) [.nalDone] ∧ s.hdr.pps.cabac = true ∧ ∃ p, aeSubMbType (s.taken [.nalDone]) s.ps = .error .bits p := by
  refine ⟨⟨rfl, rfl⟩, rfl, ?_⟩
  obtain ⟨q, hq⟩ := decision_end 36 (cabacSlice (.fetch .subB) 1 510 511).ps rfl rfl rfl
  refine ⟨q, ?_⟩
  have hm : aeSubMbType ((cabacSlice (.fetch .subB) 1 510 511).taken [.nalDone]) = decSubMbTypeB engine := rfl
  rw [hm]
  simp only [decSubMbTypeB, bind, EStateM.bind]
  have he : engine.decision 36 (cabacSlice (.fetch .subB) 1 510 511).ps = decodeDecision 36 (cabacSlice (.fetch .subB) 1 510 511).ps := rfl
  rw [he, hq]

/-! Commands and registers -/

/-- A host write of a register is due. -/
def writing (off : Nat) (w : Word) (s : State) : State := s.setHost [(0, .regWrite (s.params.regBase + off) 4 w)]

/-- A host read of a register is due. -/
def reading (off : Nat) (s : State) : State := s.setHost [(0, .regRead (s.params.regBase + off) 4)]

/-- The reset state, busy. -/
def busyState : State := State.reset.setCsr { Csr.reset with busy := true }

/-- The reset state with one frame in use. -/
def oneFrame (f : Frame) : State := State.reset.setFs (f :: List.replicate 16 Frame.free)

theorem writing_writes (off : Nat) (w : Word) (s : State) : (writing off w s).writes off w [] := rfl

theorem witness_CommandAcceptance :
    (0xFFFFFFFF : Word).getLsbD 0 = true ∧
    (State.reset.csr.busy = false ∧ (0xFFFFFFF2 : Word).getLsbD 0 = false ∧ (0xFFFFFFF2 : Word).getLsbD 1 = true ∧
      (0xFFFFFFF2 : Word).getLsbD 2 = false ∧ (0xFFFFFFF2 : Word).getLsbD 3 = false) ∧
    ((4 : Word).getLsbD 0 = false ∧ (4 : Word).getLsbD 1 = false ∧ (4 : Word).getLsbD 2 = true ∧ (4 : Word).getLsbD 3 = false) ∧
    ((8 : Word).getLsbD 0 = false ∧ (8 : Word).getLsbD 1 = false ∧ (8 : Word).getLsbD 2 = false ∧ (8 : Word).getLsbD 3 = true) ∧
    busyState.csr.busy = true ∧ ((12 : Word).getLsbD 2 && (12 : Word).getLsbD 3) = true ∧ (12 : Word).getLsbD 0 = false ∧
    ((0xFFFFFFF0 : Word).getLsbD 0 || (0xFFFFFFF0 : Word).getLsbD 1 || (0xFFFFFFF0 : Word).getLsbD 2 || (0xFFFFFFF0 : Word).getLsbD 3) = false ∧
    (writing 4 0xFFFFFFFF State.reset).writes 4 0xFFFFFFFF [] ∧ (writing 4 12 State.reset).writes 4 12 [] ∧
    (writing 4 2 busyState).writes 4 2 [] :=
  ⟨by decide, by decide, by decide, by decide, rfl, by decide, by decide, by decide, rfl, rfl, rfl⟩

theorem witness_RegisterWrites :
    (∀ off ∈ [0x08, 0x0C, 0x24, 0x28, 0x00, 0x2C, 0x30, 0x10000], (writing off 0xFFFFFFFF State.reset).writes off 0xFFFFFFFF [] ∧
      (writing off 0xFFFFFFFF State.reset).csr.busy = false) ∧
    (∀ f ∈ State.reset.fs, f.inUse = false) ∧
    (∃ f ∈ (writing 0x28 1 (oneFrame { Frame.free with inUse := true })).fs, f.inUse = true) ∧
    (∀ off ∈ [0x00, 0x2C, 0x30, 0x10000], off % 4 = 0 ∧ off ∉ [0x04, 0x08, 0x0C, 0x24, 0x28]) ∧
    (writing 0x08 1 busyState).csr.busy = true ∧ (writing 0x08 1 busyState).writes 0x08 1 [] ∧ (writing 0x0C 1 busyState).writes 0x0C 1 [] := by
  refine ⟨fun off _ => ⟨rfl, rfl⟩, by decide, ⟨{ Frame.free with inUse := true }, ?_, rfl⟩, by decide, rfl, rfl, rfl⟩
  exact List.mem_cons_self ..

theorem witness_RegisterReads :
    (∀ off ∈ [0x00, 0x04, 0x08, 0x0C, 0x10, 0x14, 0x18, 0x1C, 0x20, 0x24, 0x28, 0x2C, 0x30],
      (reading off State.reset).csr.busy = false ∧ off % 4 = 0 ∧ (reading off State.reset).host = (0, .regRead (0 + off) 4) :: []) ∧
    (∀ off ∈ [0x10, 0x14, 0x18, 0x1C, 0x20, 0x2C, 0x00, 0x30],
      (reading off busyState).csr.busy = true ∧ (reading off busyState).host = (0, .regRead (0 + off) 4) :: []) ∧
    0x30 ∉ [0x10, 0x14, 0x18, 0x1C, 0x20, 0x2C] := by
  refine ⟨fun off h => ⟨rfl, ?_, rfl⟩, fun off _ => ⟨rfl, rfl⟩, by decide⟩
  revert off; decide

/-- A sound state that is not the reset state, at work. -/
def atWork : State := ((ready (.fetch .nalHdr)).setMem [(0, 6), (7, 9)]).setCsr { Csr.reset with nalLen := 1, busy := true }

theorem witness_StepKeepsSoundness : atWork.Inv ∧ ∃ t, step atWork = .next t := by
  refine ⟨?_, got (step atWork), ?_⟩
  · unfold State.Inv; decide +kernel
  · rfl

theorem witness_OperationsLeaveMemoryAlone :
    (∃ t, exec .release atWork = .next t) ∧ Instr.release ≠ .srst ∧ (∃ t, exec .srst atWork = .next t) ∧
    (∃ t, exec (.nalForbidden 5) atWork = .next t) := ⟨⟨_, rfl⟩, by decide, ⟨_, rfl⟩, ⟨_, rfl⟩⟩

/-- NAL registers. -/
def nalRegs (a l : Nat) (ended : Bool) (err : Byte) : State :=
  (State.reset.setCsr { Csr.reset with nalAddr := BitVec.ofNat 32 a, nalLen := BitVec.ofNat 32 l, errCode := err }).setAu
    { Au.reset with ended := ended }

theorem witness_NalCommandRuns :
    (let s := nalRegs 4294967295 1 true 0
     1 ≤ s.csr.nalLen.toNat ∧ s.csr.nalLen.toNat ≤ s.params.maxNalBytes ∧ s.csr.nalAddr.toNat + s.csr.nalLen.toNat ≤ 2 ^ s.params.addrW) ∧
    (let s := nalRegs 0 0x400000 false 0
     1 ≤ s.csr.nalLen.toNat ∧ s.csr.nalLen.toNat ≤ s.params.maxNalBytes ∧ s.csr.nalAddr.toNat + s.csr.nalLen.toNat ≤ 2 ^ s.params.addrW) ∧
    (let s := nalRegs 0 0x400001 false 4
     s.csr.nalLen.toNat > s.params.maxNalBytes ∧ s.au.ended = false ∧ s.csr.errCode ≠ 0) ∧
    (let s := nalRegs 4294967295 2 true 0
     s.csr.nalAddr.toNat + s.csr.nalLen.toNat > 2 ^ s.params.addrW ∧ s.au.ended = true) ∧
    (let s := nalRegs 4294967295 0 true 0
     s.csr.nalLen = 0 ∧ s.csr.nalAddr.toNat ≤ 2 ^ s.params.addrW ∧ s.csr.errCode = 0) ∧
    (ready .nalDone).due .nalDone [.nalDone] :=
  ⟨by decide, by decide, by decide, by decide, by decide, ready_due _⟩

theorem witness_ReleaseFreesTheFrame :
    (let s := State.reset.setCsr { Csr.reset with relHandle := 16 }
     s.csr.relHandle.toNat < s.params.numFrames) ∧
    (let s := State.reset.setCsr { Csr.reset with relHandle := 17 }
     s.csr.relHandle.toNat ≥ s.params.numFrames) := by decide

/-- An access unit whose picture is in frame 0, with its first slice's header. -/
def auWith (failed : Bool) (f : Frame) (h : SliceHdr) : State :=
  (oneFrame f).setAu { Au.reset with curFrame := some 0, firstSlice := some h, failed := failed, ended := false }

/-- The frames of `marking` at an AU_END with the sliding window, four reference frames allowed. -/
def above : State :=
  marking.setAu { marking.au with firstSlice := some { firstHdr with adaptiveMarking := false, sps := { Sps.empty with maxNumRefFrames := 4 } } }

theorem witness_AuEndStarts :
    (let s := State.reset.setAu { Au.reset with failed := true }
     s.au.failed = true ∧ s.au.curFrame = none) ∧
    (let s := auWith true Frame.free SliceHdr.empty
     s.au.failed = true ∧ s.au.curFrame = some 0 ∧ 0 < s.fs.length ∧ s.savedPools = none) ∧
    -- a failed IDR picture in frame 0, frame 1 long-term before it
    (let s := ((auWith true Frame.free SliceHdr.empty).setSavedPools (some ⟨[.unused, .longTerm], some 0⟩))
     s.au.failed = true ∧ s.savedPools = some ⟨[.unused, .longTerm], some 0⟩ ∧ 1 < s.fs.length ∧ s.au.curFrame ≠ some 1 ∧ s.au.curFrame ≠ some 2) ∧
    (State.reset.au.failed = false ∧ State.reset.au.curFrame = none) ∧
    (let s := auWith false Frame.free { SliceHdr.empty with nalType := 1 }
     s.au.failed = false ∧ s.au.curFrame = some 0 ∧ 0 < s.fs.length ∧ s.first.nalRefIdc = 0) ∧
    (let s := auWith false Frame.free { SliceHdr.empty with nalType := 5, nalRefIdc := 3, longTermReference := true }
     s.first.nalRefIdc ≠ 0 ∧ s.first.nalType = 5 ∧ s.first.longTermReference = true) ∧
    (let s := auWith false Frame.free { SliceHdr.empty with nalType := 5, nalRefIdc := 1 }
     s.first.nalRefIdc ≠ 0 ∧ s.first.nalType = 5 ∧ s.first.longTermReference = false) ∧
    (let s := auWith false Frame.free { SliceHdr.empty with nalType := 1, nalRefIdc := 1, adaptiveMarking := true }
     s.first.nalRefIdc ≠ 0 ∧ s.first.nalType ≠ 5 ∧ s.first.adaptiveMarking = true) ∧
    (let s := auWith false Frame.free { SliceHdr.empty with nalType := 1, nalRefIdc := 1 }
     s.first.nalRefIdc ≠ 0 ∧ s.first.nalType ≠ 5 ∧ s.first.adaptiveMarking = false) ∧
    -- above the bound: four marked frames of at most four, so frame 0 with the smallest number loses its mark, and frame 1 keeps it
    (let t := got (exec .auEnd above)
     above.first.nalRefIdc ≠ 0 ∧ above.first.nalType ≠ 5 ∧ above.first.adaptiveMarking = false ∧ above.au.failed = false ∧
     above.au.curFrame = some 4 ∧ 4 < above.fs.length ∧ (above.frame 4).hadMmco5 = false ∧
     (above.frame 0).mark = .shortTerm ∧ (t.frame 0).mark = .unused ∧ (t.frame 1).mark = .shortTerm) := by decide

theorem witness_AuEndOutputsTheFrame :
    let s := (auWith false { Frame.free with inUse := true, poc := -1 } SliceHdr.empty).setTasks [.auEndFinish]
    s.due .auEndFinish [] ∧ s.au.failed = false ∧ s.au.curFrame = some 0 ∧ 0 < s.fs.length ∧ s.dbk[0]? = some Dbk.empty :=
  ⟨⟨rfl, rfl⟩, rfl, rfl, by decide, rfl⟩

theorem witness_PocHistory :
    (let s := auWith false { Frame.free with hadMmco5 := true } { SliceHdr.empty with nalRefIdc := 1 }
     (s.setTasks [.auEndFinish]).due .auEndFinish [] ∧ s.au.failed = false ∧ s.au.curFrame = some 0 ∧ 0 < s.fs.length ∧
       s.first.nalRefIdc ≠ 0 ∧ (s.frame 0).hadMmco5 = true) ∧
    (let s := auWith false Frame.free { SliceHdr.empty with nalRefIdc := 1 }
     s.first.nalRefIdc ≠ 0 ∧ (s.frame 0).hadMmco5 = false ∧ s.first.sps.pocType = 0) ∧
    (auWith false Frame.free SliceHdr.empty).first.nalRefIdc = 0 ∧
    (((ready .auEndFinish).due .auEndFinish [.nalDone]) ∧ (ready .auEndFinish).au.curFrame = none) ∧
    (auWith true Frame.free SliceHdr.empty).au.failed = true :=
  ⟨⟨⟨rfl, rfl⟩, by decide⟩, by decide, by decide, ⟨ready_due _, rfl⟩, rfl⟩

theorem witness_ErrorScopes :
    (∀ f ∈ [Fsm.created, .headerParsed, .decoding], (State.reset.setCsr { Csr.reset with fsm := f }).inSlice = true) ∧
    (∀ f ∈ [Fsm.idle, .complete], (State.reset.setCsr { Csr.reset with fsm := f }).inSlice = false) ∧
    ErrCode.bits ≠ .psMissing ∧ ErrCode.bits ≠ .noFrame ∧ ErrCode.bits ≠ .mark := by decide

/-! NAL units and slices -/

theorem witness_DiscardedNalUnits : ((fun r => Instr.nalType31 r), 31) ∈ ignoredNalOps ∧ ((fun r => Instr.nalType0 r), 0) ∈ ignoredNalOps := by
  constructor <;> simp [ignoredNalOps]

/-- A state whose NAL unit has the given bytes from address 0 on. -/
def withNal (m : List Host.Cell) : State :=
  (State.reset.setCsr { Csr.reset with nalLen := BitVec.ofNat 32 m.length, busy := true, fsm := .complete }).setMem m

/-- The SPS and PPS bytes of 95_test_vectors.md P1, their ids in range. -/
theorem witness_ParameterSetsStoredById_sps :
    let s := withNal [(0, 0x67), (1, 0x42), (2, 0), (3, 0x1E), (4, 0xF4), (5, 0xF2)]
    ∃ (sps : Sps) (p : Ps), readSps { s.ps with br := Br.ofRbsp (stripEpb 0 s.payload) } = .ok sps p ∧ decide (sps.id < s.sps.length) = true :=
  okWith_spec (q := fun (sps : Sps) (_ : Ps) => decide (sps.id < 32)) (by decide +kernel)

/-- The state of P1's PPS. -/
def ppsNal : State := withNal [(0, 0x68), (1, 0xCE), (2, 0x38), (3, 0x80)]

theorem ppsNal_reads :
    okWith (readPps ppsNal { ppsNal.ps with br := Br.ofRbsp (stripEpb 0 ppsNal.payload) }) (fun (pps : Pps) (_ : Ps) => decide (pps.id < 256)) = true := by
  decide +kernel

theorem witness_ParameterSetsStoredById_pps :
    ∃ (pps : Pps) (p : Ps), readPps ppsNal { ppsNal.ps with br := Br.ofRbsp (stripEpb 0 ppsNal.payload) } = .ok pps p ∧
      decide (pps.id < ppsNal.pps.length) = true := by
  have hl : ppsNal.pps.length = 256 := List.length_replicate ..
  rw [hl]
  exact okWith_spec ppsNal_reads

theorem witness_ParameterSetsStoredById_fails :
    let s := withNal [(0, 0x67)]
    (∃ e p, readSps { s.ps with br := Br.ofRbsp (stripEpb 0 s.payload) } = .error e p ∧ decide (e = .bits) = true) ∧
    (∃ e p, readPps s { s.ps with br := Br.ofRbsp (stripEpb 0 s.payload) } = .error e p ∧ decide (e = .bits) = true) ∧
    s.inSlice = false :=
  ⟨errWith_spec (by decide), errWith_spec (by decide), rfl⟩

theorem witness_SliceNalUnit :
    (State.reset.setAu { Au.reset with failed := true }).au.failed = true ∧ State.reset.au.failed = false ∧
    (((Instr.nalSlice 3) = .nalSlice 3 ∧ 1 = 1) ∨ ((Instr.nalSlice 3) = .nalIdr 3 ∧ 1 = 5)) ∧
    (((Instr.nalIdr 3) = .nalSlice 3 ∧ 5 = 1) ∨ ((Instr.nalIdr 3) = .nalIdr 3 ∧ 5 = 5)) := by decide

theorem witness_SliceTypesKept : (Instr.sliceSiAll, 9) ∈ sliceTypeOps ∧ (Instr.sliceP, 0) ∈ sliceTypeOps := by decide

/-- A slice header at its `pic_parameter_set_id`, its parameter sets in the tables (those of 95_test_vectors.md P1, with redundant counts if asked). -/
def atHeader (sliceType : Nat) (redundant : Bool) (l : List Nat) : State :=
  ((readySlice .sliceHeader l fun h => { h with sliceType := sliceType, nalType := 1 }).setSps [some { Sps.empty with maxNumRefFrames := 1 }]).setPps
    [some { Pps.empty with redundantPicCntPresent := redundant }]

-- an SP slice: '1' '0000' '0000' '0' '0' '1' '0' '1'
theorem witness_HeaderOutcome_unsupported :
    let s := atHeader 3 false [0x80, 0x14]
    s.due .sliceHeader [.nalDone] ∧ ∃ (h : SliceHdr) (p : Ps), readHeader (s.taken [.nalDone]) s.hdr s.ps = .ok h p ∧ decide (h.sliceType % 5 = 3) = true :=
  ⟨⟨rfl, rfl⟩, okWith_spec (q := fun (h : SliceHdr) (_ : Ps) => decide (h.sliceType % 5 = 3)) (by decide)⟩

-- an I slice with redundant_pic_cnt 1: '1' '0000' '0000' '010' '1'
theorem witness_HeaderOutcome_redundant :
    let s := atHeader 7 true [0x80, 0x28]
    s.due .sliceHeader [.nalDone] ∧ ∃ (h : SliceHdr) (p : Ps), readHeader (s.taken [.nalDone]) s.hdr s.ps = .ok h p ∧
      decide (h.sliceType % 5 < 3 ∧ h.redundantPicCnt > 0) = true :=
  ⟨⟨rfl, rfl⟩, okWith_spec (q := fun (h : SliceHdr) (_ : Ps) => decide (h.sliceType % 5 < 3 ∧ h.redundantPicCnt > 0)) (by decide)⟩

-- a P slice: '1' '0000' '0000' '0' '0' '1'
theorem witness_HeaderOutcome_plain :
    let s := atHeader 0 false [0x80, 0x10]
    s.due .sliceHeader [.nalDone] ∧ ∃ (h : SliceHdr) (p : Ps), readHeader (s.taken [.nalDone]) s.hdr s.ps = .ok h p ∧
      decide (h.sliceType % 5 < 3 ∧ h.redundantPicCnt = 0) = true :=
  ⟨⟨rfl, rfl⟩, okWith_spec (q := fun (h : SliceHdr) (_ : Ps) => decide (h.sliceType % 5 < 3 ∧ h.redundantPicCnt = 0)) (by decide)⟩

theorem witness_AllocationChoosesTheLowestFreeFrame :
    (let s := (ready .alloc).setFs (List.replicate 17 { Frame.free with inUse := true })
     s.due .alloc [.nalDone] ∧ ∀ f ∈ s.fs, f.inUse = true) ∧
    (let s := ((ready .alloc).setFs (List.replicate 16 { Frame.free with inUse := true } ++ [Frame.free])).setSl
       (some { SliceHdr.empty with nalType := 5 })
     s.due .alloc [.nalDone] ∧ 16 < s.fs.length ∧ (s.frame 16).inUse = false ∧ (∀ g, g < 16 → (s.frame g).inUse = true) ∧
       s.hdr.nalType = 5) ∧
    (ready .alloc).hdr.nalType ≠ 5 :=
  ⟨⟨⟨rfl, rfl⟩, by decide⟩, ⟨⟨rfl, rfl⟩, by decide⟩, by decide⟩

/-- A state with a frame base and a slice header. -/
def allocAt (base : Word) (groups : Nat) : State :=
  ((ready (.allocFinish 16)).setCsr { Csr.reset with frameBase := base }).setSl
    (some { SliceHdr.empty with pps := { Pps.empty with numSliceGroupsMinus1 := groups } })

theorem witness_AllocationFillsTheFrame :
    (let s := allocAt 4244831872 0
     s.due (.allocFinish 16) [.nalDone] ∧ 16 < s.fs.length ∧ s.hdr.pps.numSliceGroupsMinus1 = 0 ∧
     s.csr.frameBase.toNat + 16 * (384 * s.params.maxWidthMbs * s.params.maxHeightMbs) + 384 * s.hdr.sps.sizeInMbs ≤ 2 ^ s.params.addrW) ∧
    (let s := allocAt 4244831872 7
     s.due (.allocFinish 16) [.nalDone] ∧ s.hdr.pps.numSliceGroupsMinus1 > 0 ∧
     s.csr.frameBase.toNat + 16 * (384 * s.params.maxWidthMbs * s.params.maxHeightMbs) + 384 * s.hdr.sps.sizeInMbs ≤ 2 ^ s.params.addrW) ∧
    Mem.wf ((allocAt 4244831872 0).setMem [(4294967295, 7)]).mem = true ∧
    (let s := allocAt 4244831873 0
     s.due (.allocFinish 16) [.nalDone] ∧
     s.csr.frameBase.toNat + 16 * (384 * s.params.maxWidthMbs * s.params.maxHeightMbs) + 384 * s.hdr.sps.sizeInMbs > 2 ^ s.params.addrW) :=
  ⟨⟨⟨rfl, rfl⟩, by decide⟩, ⟨⟨rfl, rfl⟩, by decide⟩, by decide, ⟨⟨rfl, rfl⟩, by decide⟩⟩

theorem witness_SliceStarts :
    let s := (ready .initSlice).setAu { Au.reset with curFrame := some 0 }
    s.due .initSlice [.nalDone] ∧ s.hdr.pps.cabac = false ∧ s.au.curFrame = some 0 ∧ s.dbk[0]? = some Dbk.empty :=
  ⟨⟨rfl, rfl⟩, rfl, rfl, rfl⟩

/-- The start of a CABAC slice, the cursor at bit 3 of an RBSP of `n` bytes. -/
def cabacStart (n : Nat) : State :=
  (((ready .initSlice).setSl (some { SliceHdr.empty with sliceType := 2, pps := { Pps.empty with cabac := true } })).setBr
    ⟨List.replicate n 0x80, 3, some 0⟩).setCsr { Csr.reset with fsm := .headerParsed, busy := true }

-- three bytes hold the alignment and the nine bits, two do not
theorem witness_SliceStarts_cabac :
    (let s := cabacStart 3
     s.due .initSlice [.nalDone] ∧ s.hdr.pps.cabac = true ∧ s.br.cursor + (8 - s.br.cursor % 8) % 8 + 9 ≤ 8 * s.br.rbsp.length) ∧
    (let s := cabacStart 2
     s.due .initSlice [.nalDone] ∧ s.hdr.pps.cabac = true ∧ s.br.cursor ≤ 8 * s.br.rbsp.length ∧
       s.br.cursor + (8 - s.br.cursor % 8) % 8 + 9 > 8 * s.br.rbsp.length ∧ s.csr.fsm = .headerParsed) :=
  ⟨⟨⟨rfl, rfl⟩, by decide⟩, ⟨⟨rfl, rfl⟩, by decide⟩⟩

-- box-out of two units in a picture of 2 x 2: the walk starts at (1, 1), unit 3, and grows to the left, unit 2
theorem witness_SliceGroupMaps_boxOut :
    let s := mapHdr (withHdr fun h => { h with groupChangeCycle := 2 }) fun h => { h with
      sps := { h.sps with widthInMbsMinus1 := 1, heightInMapUnitsMinus1 := 1 }, pps := { h.pps with numSliceGroupsMinus1 := 1 } }
    s.hdr.mapArgs.u0 = 2 ∧ (got (exec .sgmap3BoxOut s)).au.map.count 0 = 2 ∧
    (got (exec .sgmap3BoxOut s)).au.map = [1, 1, 0, 0] ∧ boxOutUnits 2 2 0 2 = [3, 2] := by decide

-- and a state whose prediction lies one past the largest value
theorem witness_PictureOrderCount :
    ((-2147483648 : Int) ≤ 2147483647 ∧ (2147483647 : Int) ≤ 2147483647) ∧
    ¬ (((((withHdr fun h => { h with nalType := 1, pocLsb := 15 }).setAu { Au.reset with prevPocMsb := 2147483633, prevPocLsb := 14 }).au.prevPocMsb
      + (withHdr fun h => { h with nalType := 1, pocLsb := 15 }).hdr.pocLsb : Int)) ≤ 2147483647) := by decide

/-! Syntax elements -/

theorem witness_FixedLengthReads :
    (let s := withRbsp [0xFF, 0xFF, 0xFF, 0xFF]
     s.br.cursor + 32 ≤ 8 * s.br.rbsp.length ∧ s.br.cursor + 33 > 8 * s.br.rbsp.length) := by decide

theorem witness_ExpGolombReads :
    (withRbsp [0x80]).br.startsWith (List.replicate 0 false ++ true :: []) ∧
    (withRbsp [0, 0, 0, 1, 0xFF, 0xFF, 0xFF, 0xFE]).br.startsWith (List.replicate 31 false ++ true :: List.replicate 31 true) ∧
    -- code numbers 47 and 48
    (withRbsp [0x06, 0x00]).br.startsWith (List.replicate 5 false ++ true :: bits "10000") ∧ 2 ^ 5 - 1 + bitsToNat (bits "10000") = 47 ∧
    (withRbsp [0x06, 0x20]).br.startsWith (List.replicate 5 false ++ true :: bits "10001") ∧ 2 ^ 5 - 1 + bitsToNat (bits "10001") = 48 ∧
    (withRbsp [0x00]).br.startsWith [false] ∧ (withRbsp [0, 0, 0, 0]).br.startsWith (List.replicate 32 false) ∧
    8 * (withRbsp [0x00]).br.rbsp.length = (withRbsp [0x00]).br.cursor + 8 ∧ (withRbsp [0x00]).br.startsWith (List.replicate 8 false) := by
  unfold Br.startsWith; decide

theorem witness_CavlcCodeReads :
    (∃ v p, readCe .levelPrefix (withRbsp [0, 0, 0, 1]).ps = .ok v p ∧ decide (v = (31, 0)) = true) ∧
    (∃ x p, readCe .levelPrefix (withRbsp []).ps = .error x p ∧ decide (x = .bits) = true) ∧
    (withRbsp [0, 0, 0, 1]).br.startsWith (List.replicate 31 false ++ [true]) ∧
    (withRbsp [0, 0, 0, 0]).br.startsWith (List.replicate 32 false) ∧
    (withRbsp []).br.startsWith (bits "") ∧ (withRbsp [0xFF, 0xFF, 0xFF, 0xF0]).br.startsWith (List.replicate 28 true) ∧
    (bits "1", 0) ∈ runBeforeTable 1 ∧ (withRbsp [0x80]).br.startsWith (bits "1") ∧
    (bits "00000000001", 14) ∈ runBeforeTable 7 ∧ (withRbsp [0x00, 0x20]).br.startsWith (bits "00000000001") ∧
    (withRbsp [0x40]).br.startsWith (bits "01") ∧ (withRbsp [0x20]).br.startsWith (bits "001") ∧
    (withRbsp [0x60]).br.startsWith (bits "011") ∧ (withRbsp [0x40]).br.startsWith (bits "010") ∧
    (withRbsp [0xA0]).br.startsWith (bits "101") ∧ (withRbsp [0x80]).br.startsWith (bits "100") ∧
    (withRbsp [0x40]).br.startsWith (bits "0100") ∧ (withRbsp [0x00]).br.startsWith (bits "000") := by
  refine ⟨okWith_spec (by decide), errWith_spec (by decide), ?_⟩
  unfold Br.startsWith; decide

theorem witness_CabacElementReads :
    (∃ v p, readAe (withRbsp [0x80]) .coeffSignFlag (withRbsp [0x80]).ps = .ok v p ∧ decide (v = 1) = true) ∧
    (∃ x p, readAe (withRbsp []) .coeffSignFlag (withRbsp []).ps = .error x p ∧ decide (x = .bits) = true) :=
  ⟨okWith_spec (by decide), errWith_spec (by decide)⟩

-- 45_cabac_syntax.md R502, R504: a bypass bin reads one bit, a terminating bin 1 none, a terminating bin 0 that leaves a range below 256 one
theorem test_codeword :
    let w : Codeword := ⟨[], 257, 9⟩
    (w.next .bypass true).stop = 10 ∧ w.next .terminate true = ⟨[], 255, 9⟩ ∧ w.next .terminate false = ⟨[], 510, 10⟩ := by decide

theorem witness_BypassAndTerminateBins_codeword :
    (withRbsp [0x80]).params.cabacEngine = .procedures ∧ (∀ x ∈ (withRbsp [0x80]).cabac.ctx, x.valMps ≤ 1) ∧
    (∃ v p, readAe (withRbsp [0x80]) .coeffSignFlag (withRbsp [0x80]).ps = .ok v p ∧ decide (v = 1) = true) :=
  ⟨by decide, by decide, okWith_spec (by decide)⟩

theorem witness_BypassAndTerminateBins :
    State.reset.params.cabacEngine = .procedures ∧
    -- an oracle, at the end of the RBSP
    (let s := (withRbsp [0x80]).setBr { (withRbsp [0x80]).br with cursor := 8 }
     let t := { s with params := { s.params with cabacEngine := .oracle } }
     t.params.cabacEngine = .oracle ∧ t.br.cursor ≤ 8 * t.br.rbsp.length ∧ AeElem.coeffSignFlag = .coeffSignFlag ∧ EngineOp.bypass = .bypass) ∧
    (withRbsp [0x80]).br.startsWith [true] ∧ (withRbsp [0x00]).br.startsWith [false] ∧
    (let c : Cabac := { Cabac.reset with range := 510, offset := 254 }
     2 * c.offset.toNat + 1 < c.range.toNat ∧ c.offset < c.range - 2 ∧ c.range - 2 ≥ 256) ∧
    (let c : Cabac := { Cabac.reset with range := 509, offset := 254 }
     2 * c.offset.toNat + 1 ≥ c.range.toNat) ∧
    (let c : Cabac := { Cabac.reset with range := 256, offset := 254 }
     c.offset ≥ c.range - 2) ∧
    (let c : Cabac := { Cabac.reset with range := 257, offset := 254 }
     c.offset < c.range - 2 ∧ (c.range = 256 ∨ c.range = 257)) ∧
    (let c : Cabac := { Cabac.reset with range := 256, offset := 253 }
     c.offset < c.range - 2 ∧ (c.range = 256 ∨ c.range = 257)) := by
  unfold Br.startsWith; decide

/-! Macroblocks -/

theorem witness_CodedMacroblockTypes :
    (Instr.i_16x16_3_2_1, MbType.i16x16 23) ∈ codedIntraOps ∧ (Instr.bINxN, MbType.iNxN) ∈ codedIntraOps ∧
    (Instr.pL0_16x16, MbType.p 0) ∈ codedInterOps ∧ (Instr.p8x8ref0, MbType.p 4) ∈ codedInterOps ∧ (Instr.b8x8, MbType.b 22) ∈ codedInterOps ∧
    (Instr.bDirect16x16, MbType.b 0) ∈ codedInterOps := by decide

theorem witness_SkippedMacroblocks :
    ((Instr.pSkip = .pSkip ∧ MbType.pSkip = .pSkip ∧ 1 = 1) ∨ (Instr.pSkip = .bSkip ∧ MbType.pSkip = .bSkip ∧ 1 = 16)) ∧
    ((Instr.bSkip = .pSkip ∧ MbType.bSkip = .pSkip ∧ 16 = 1) ∨ (Instr.bSkip = .bSkip ∧ MbType.bSkip = .bSkip ∧ 16 = 16)) ∧
    State.reset.mb.transform8x8 = false ∧
    (∀ q ∈ [(0 : Int), 51], 0 ≤ (State.reset.setDs { Ds.reset with qpY := q }).ds.qpY ∧ (State.reset.setDs { Ds.reset with qpY := q }).ds.qpY ≤ 51) := by
  decide

/-- I_PCM data at the cursor: `n` bytes, the cursor inside the first. -/
def pcmAt (n : Nat) (cabac : Bool) : State :=
  (((State.reset.setBr ⟨List.replicate n 0x80, 3, some 0⟩).setSl
    (some { SliceHdr.empty with pps := { Pps.empty with cabac := cabac } }))).setCsr { Csr.reset with fsm := .decoding }

theorem witness_PcmMacroblocks :
    (let s := pcmAt 385 false
     s.br.cursor + (8 - s.br.cursor % 8) % 8 + 3072 + (if s.hdr.pps.cabac then 9 else 0) ≤ 8 * s.br.rbsp.length) ∧
    (let s := pcmAt 387 true
     s.hdr.pps.cabac = true ∧ s.br.cursor + (8 - s.br.cursor % 8) % 8 + 3072 + (if s.hdr.pps.cabac then 9 else 0) ≤ 8 * s.br.rbsp.length) ∧
    (let s := pcmAt 386 true
     s.csr.fsm = .decoding ∧ s.csr.errCode = 0 ∧
     s.br.cursor + (8 - s.br.cursor % 8) % 8 + 3072 + (if s.hdr.pps.cabac then 9 else 0) > 8 * s.br.rbsp.length) ∧
    (0 ≤ (pcmAt 385 false).ds.qpY ∧ (pcmAt 385 false).ds.qpY ≤ 51) := by
  decide +kernel

theorem witness_SubMacroblockTypes : (Instr.subPL0_8x8, SubType.p 0) ∈ subTypeOps ∧ (Instr.subBBi_4x4, SubType.b 12) ∈ subTypeOps := by decide

-- P_L0_16x16 in CAVLC: both mvd components 0, and codeNum 0, which is no coefficient
theorem witness_QpUpdate :
    let s := (readySlice .mbRest [0xF0] id).setMb { MbRec.cleared with mbType := .p 0 }
    s.due .mbRest [.nalDone] ∧ ∃ (v : Unit) (p : Ps), readMbLayer (s.taken [.nalDone]) s.ps = .ok v p ∧ decide (p.mb.mbQpDelta = 0) = true :=
  ⟨⟨rfl, rfl⟩, okWith_spec (q := fun (_ : Unit) (p : Ps) => decide (p.mb.mbQpDelta = 0)) (by decide)⟩

/-- A macroblock at address 3 of a picture two wide and two high, in frame 0, its neighbours decoded, `blk` in progress. -/
def inner (blk : Nat) : State :=
  (((((oneFrame { Frame.free with inUse := true, w := 32, h := 32 }).setSl
      (some { SliceHdr.empty with sps := { Sps.empty with widthInMbsMinus1 := 1, heightInMapUnitsMinus1 := 1 } })).setAu
    { Au.reset with curFrame := some 0, map := [0, 0, 0, 0], mbInfo := List.replicate 4 { MbInfo.fresh with decoded := true, isIntra := true } }).setDs
    { Ds.reset with currMbAddr := 3 }).setWk { Wk.reset with blk := blk }).setTasks [.writeBack]

theorem witness_WriteBackWritesOneMacroblock :
    (inner 0).due .writeBack [] ∧ ((inner 0).frame (inner 0).cur).w = 16 * (inner 0).picWidth ∧
    16 * ((inner 0).mbY + 1) ≤ ((inner 0).frame (inner 0).cur).h ∧ ((inner 0).frame (inner 0).cur).h % 2 = 0 ∧
    (inner 0).ds.currMbAddr < (inner 0).au.mbInfo.length ∧ (inner 0).cur < (inner 0).dbk.length ∧ (inner 0).dbk[(inner 0).cur]? = some Dbk.empty ∧
    (inner 0).wk.cur.transform8x8 = false ∧
    (let s := (inner 0).setWk { Wk.reset with cur := { MbInfo.fresh with transform8x8 := true } }
     s.wk.cur.transform8x8 = true ∧ s.hdr.pps.cabac = false) :=
  ⟨⟨rfl, rfl⟩, by decide, by decide, by decide, by decide, by decide, rfl, rfl, rfl, rfl⟩

/-- All neighbours of a block are available. -/
def IntraNb.full (p : IntraNb) : Bool := p.hasTop && p.hasLeft && p.hasCorner

theorem witness_Intra4x4Modes : IntraNb.full ((inner 0).nb4x4 (inner 0).wk.blk) = true ∧ IntraNb.full ((inner 15).nb4x4 (inner 15).wk.blk) = true := by
  constructor <;> rfl

theorem witness_Intra8x8Modes : IntraNb.full ((inner 0).nb8x8 (inner 0).wk.blk) = true ∧ IntraNb.full ((inner 3).nb8x8 (inner 3).wk.blk) = true := by
  constructor <;> rfl

theorem witness_Intra16x16Modes : IntraNb.full (inner 0).nb16x16 = true := by rfl

theorem witness_ChromaModes :
    (∀ c ∈ [1, 2], ((inner 0).setWk { (inner 0).wk with plane := c }).wk.plane = c) ∧
    IntraNb.full ((inner 0).nbChroma 1) = true ∧ IntraNb.full ((inner 0).nbChroma 2) = true := by
  refine ⟨by decide, rfl, rfl⟩

-- in the first macroblock of a picture no neighbour is available
theorem witness_IllegalIntraModes :
    (let s := (inner 0).setDs Ds.reset
     (s.nb4x4 0).hasTop = false ∧ (s.nb4x4 0).hasLeft = false ∧ (s.nb8x8 0).hasTop = false ∧ (s.nb8x8 0).hasLeft = false ∧
     s.nb16x16.hasTop = false ∧ s.nb16x16.hasLeft = false ∧ s.nb16x16.hasCorner = false ∧
     (s.nbChroma 1).hasTop = false ∧ (s.nbChroma 1).hasLeft = false ∧ (s.nbChroma 1).hasCorner = false) := by decide

theorem witness_IntraPredictionStaysInRange : nb51.samples ∧ (⟨true, true, true, List.replicate 32 255, List.replicate 16 0, 255⟩ : IntraNb).samples := by
  unfold IntraNb.samples; decide

theorem witness_LumaFilterIsSeparableAndInRange : ∀ a b : Int, 0 ≤ luma7 a b ∧ luma7 a b ≤ 255 := by
  intro a b; unfold luma7; omega

theorem witness_ChromaPhases : (Instr.cpel00, 0) ∈ cpelOps ∧ (Instr.cpel77, 63) ∈ cpelOps := by decide

theorem witness_Residual4x4 :
    (let s := withWk fun w => { w with lvl := List.replicate 16 0 }
     s.wk.size = 4 ∧ ∀ v ∈ s.wk.lvl, v = 0) ∧
    (let s := withWk fun w => { w with size := 8, lvl := List.replicate 64 0 }
     s.wk.size = 8 ∧ ∀ v ∈ s.wk.lvl, v = 0) ∧
    (let s := withWk fun w => { w with lvl := 5 :: List.replicate 15 0 }
     ∀ k < 16, 1 ≤ k → at0 s.wk.lvl k = 0) := by decide

/-! Reference lists and marking -/

/-- The picture number of a frame in `lists9`. -/
def pn9 (g : Nat) : Int :=
  if (lists9.frame g).frameNum > lists9.hdr.frameNum then (lists9.frame g).frameNum - lists9.hdr.sps.maxFrameNum else (lists9.frame g).frameNum

theorem witness_ListModification :
    -- (0, 15) is out of range by one, (0, 2) names FS0, (1, 12) wraps to picture number 0, (0, 3) and (1, 0) name none
    ((16 : Int) + 1 > lists9.hdr.sps.maxFrameNum) ∧ ((15 : Int) + 1 ≤ lists9.hdr.sps.maxFrameNum) ∧
    (0 < lists9.fs.length ∧ (lists9.frame 0).mark = .shortTerm ∧ pn9 0 = lists9.wk.picNumPred - (2 + 1)) ∧
    (lists9.wk.picNumPred + (12 + 1) ≥ (lists9.hdr.sps.maxFrameNum : Int) ∧ pn9 0 = lists9.wk.picNumPred + (12 + 1) - lists9.hdr.sps.maxFrameNum) ∧
    (∀ g, g < lists9.fs.length → ¬ ((lists9.frame g).mark = .shortTerm ∧ pn9 g = lists9.wk.picNumPred - (3 + 1) + 16)) ∧
    (3 < lists9.fs.length ∧ (lists9.frame 3).mark = .longTerm ∧ (lists9.frame 3).longTermFrameIdx = 0 ∧
      ∀ g, g < 3 → ¬ (lists9.frame g).mark = .longTerm) ∧
    (∀ g, g < lists9.fs.length → ¬ ((lists9.frame g).mark = .longTerm ∧ (lists9.frame g).longTermFrameIdx = 1)) := by decide

theorem witness_MarkingOperations :
    (let s := marking.setMaxLong (some 1)
     -- difference 1 names frame 2, difference 4 none; index 0 names frame 3, index 1 none and index 2 is out of range
     (2 < s.fs.length ∧ (s.frame 2).mark = .shortTerm ∧ ((s.frame 2).frameNum : Int) = (s.first.frameNum : Int) - (0 + 1)) ∧
     (∀ g, g < s.fs.length → ¬ ((s.frame g).mark = .shortTerm ∧ ((s.frame g).frameNum : Int) = (s.first.frameNum : Int) - (3 + 1))) ∧
     (∀ g, g < s.fs.length → (s.frame g).frameNum ≤ s.first.frameNum) ∧
     (3 < s.fs.length ∧ (s.frame 3).mark = .longTerm ∧ (s.frame 3).longTermFrameIdx = 0 ∧ ∀ g, g < 3 → (s.frame g).mark ≠ .longTerm) ∧
     (∀ g, g < s.fs.length → ¬ ((s.frame g).mark = .longTerm ∧ (s.frame g).longTermFrameIdx = 1)) ∧
     s.maxLongTermFrameIdx = some 1 ∧ (1 ≤ 1) ∧ ¬ (2 ≤ 1) ∧
     s.au.curFrame = some 4 ∧ 4 < s.fs.length) ∧
    (16 ≤ 16 ∧ 17 > 16 ∧ 0 ≤ 16) ∧ marking.maxLongTermFrameIdx = none := by decide

theorem witness_MarkingEnd :
    (let marked (fs : List Frame) : Nat := (fs.filter fun f => decide (f.mark ≠ .unused)).length
     marking.au.curFrame = some 4 ∧ 4 < marking.fs.length ∧ marking.wk.curLong = false ∧
     marked (marking.fs.set 4 { marking.frame 4 with mark := .shortTerm }) ≤ max marking.first.sps.maxNumRefFrames 1 ∧
     -- with four reference frames allowed there is one too many
     (let s := marking.setAu { marking.au with firstSlice := some { firstHdr with sps := { Sps.empty with maxNumRefFrames := 4 } } }
      marked (s.fs.set 4 { s.frame 4 with mark := .shortTerm }) > max s.first.sps.maxNumRefFrames 1)) ∧
    ((got (exec .mmcoAllUnused marking)).frame 4).hadMmco5 = true := by decide

end Sys2Proof.Tests
end

section
/-! PROOFS. The registers and commands of 10_state.md: what a host access does in one step, then the statements of that family. -/

namespace Sys2Proof

/-- A fixed-length code reads back the value written on its bits. -/
theorem fixedDecode_natToBits (n v : Nat) : fixedDecode n (natToBits n v) = .ok (v % 2 ^ n) n := by
  have htake : (natToBits n v).take n = natToBits n v := List.take_of_length_le (by simp)
  simp [fixedDecode, htake, bitsToNat_natToBits]

/-- A `CTRL` word is decoded by its value (30_encoding.md R140). -/
theorem decode_cmd_word (w : Word) : decode .cmd (natToBits 32 w.toNat) = orReserved cmdOf (.ok w.toNat 32) := by
  simp only [decode, fixedDecode_natToBits, Nat.mod_eq_of_lt w.isLt]

end Sys2Proof

namespace Sys2Proof.Machine

/-! ## One step with a register access due -/

/-- A step with a host act due does it. -/
theorem step_host {s : State} {e : HostEvent} {q : List (Nat × HostEvent)} (h : s.host = (0, e) :: q) :
    step s = hostEvent e (s.setHost q) := by
  simp only [step, h]

/-- An aligned word access at or above `REG_BASE` has a meaning (20_memory.md R100, R106, R107). -/
theorem regRefusal_aligned (s : State) {off : Nat} (ha : off % 4 = 0) : s.regRefusal (s.params.regBase + off) 4 = none := by
  simp [State.regRefusal, ha]

theorem step_ctrlWrite {s : State} {w : Word} {q : List (Nat × HostEvent)} (h : s.writes 4 w q) :
    step s = ctrlWrite w (s.setHost q) := by
  have hr := regRefusal_aligned (s.setHost q) (off := 4) rfl
  rw [setHost_params] at hr
  simp [step_host h, hostEvent, hostRegWrite, hr]

/-- A write of another register than CTRL, which while busy has a meaning for NAL_ADDR, NAL_LEN and unlisted offsets (70_reset_and_hazards.md R866 item 1). -/
theorem step_writeReg {s : State} {off : Nat} {w : Word} {q : List (Nat × HostEvent)} (h : s.writes off w q)
    (ha : off % 4 = 0) (hctrl : off ≠ 0x04) (hb : s.csr.busy = true → off < 0x30 → off = 0x08 ∨ off = 0x0C) :
    step s = .next ((s.setHost q).writeReg off w) := by
  have hr := regRefusal_aligned (s.setHost q) ha
  rw [setHost_params] at hr
  have hok : ¬ (s.csr.busy = true ∧ off < 0x30 ∧ off ≠ 0x08 ∧ off ≠ 0x0C) := by
    rintro ⟨hbusy, hlt, h8, hC⟩
    exact (hb hbusy hlt).elim h8 hC
  simp only [step_host h, hostEvent, hostRegWrite, hr, setHost_params, setHost_csr, Nat.add_sub_cancel_left, if_neg hctrl, if_neg hok]

theorem step_readReg {s : State} {off : Nat} {q : List (Nat × HostEvent)}
    (h : s.host = (0, .regRead (s.params.regBase + off) 4) :: q) (ha : off % 4 = 0) :
    step s = .next ((s.setHost q).readReg off) := by
  have hr := regRefusal_aligned (s.setHost q) ha
  rw [setHost_params] at hr
  simp only [step_host h, hostEvent, hostRegRead, hr, setHost_params, Nat.add_sub_cancel_left]

/-! ## CTRL writes (10_state.md R62, R63) -/

/-- The lowest bit of a word as its lowest digit. -/
theorem toNat_mod_two (w : Word) : w.toNat % 2 = (w.getLsbD 0).toNat := by
  rw [BitVec.getLsbD, Nat.toNat_testBit, Nat.pow_zero, Nat.div_one]

/-- The value of the command bits 1 to 3 of a word. -/
theorem toNat_commandBits (w : Word) :
    w.toNat / 2 % 8 = (w.getLsbD 1).toNat + 2 * (w.getLsbD 2).toNat + 4 * (w.getLsbD 3).toNat := by
  simp only [BitVec.getLsbD, Nat.toNat_testBit]
  omega

/-- No command bit is set. -/
theorem commandBits_eq_zero (w : Word) :
    w.toNat / 2 % 8 = 0 ↔ (w.getLsbD 1 || w.getLsbD 2 || w.getLsbD 3) = false := by
  rw [toNat_commandBits]
  cases w.getLsbD 1 <;> cases w.getLsbD 2 <;> cases w.getLsbD 3 <;> simp

/-- The command of the bits 1, 2 and 3: exactly one of them names it (R63). -/
def commandOfBits : Bool → Bool → Bool → Option Instr
  | true, false, false => some .nal
  | false, true, false => some .auEnd
  | false, false, true => some .release
  | _, _, _ => none

theorem cmdOf_of_bit0 {w : Word} (h0 : w.getLsbD 0 = true) : cmdOf w.toNat = some .srst := by
  rw [cmdOf, toNat_mod_two, h0]
  rfl

theorem cmdOf_of_not_bit0 {w : Word} (h0 : w.getLsbD 0 = false) :
    cmdOf w.toNat = commandOfBits (w.getLsbD 1) (w.getLsbD 2) (w.getLsbD 3) := by
  rw [cmdOf, toNat_mod_two, h0, toNat_commandBits]
  cases w.getLsbD 1 <;> cases w.getLsbD 2 <;> cases w.getLsbD 3 <;> rfl

theorem commandOfBits_ne_srst (b1 b2 b3 : Bool) : commandOfBits b1 b2 b3 ≠ some .srst := by
  revert b1 b2 b3
  decide

/-- Two command bits name no command. -/
theorem commandOfBits_of_two {b1 b2 b3 : Bool} (h : (b1 && b2 || b1 && b3 || b2 && b3) = true) :
    commandOfBits b1 b2 b3 = none := by
  revert b1 b2 b3
  decide

section
variable {w : Word} (s : State)

theorem ctrlWrite_srst (h0 : w.getLsbD 0 = true) : ctrlWrite w s = exec .srst s := by
  simp only [ctrlWrite, decode_cmd_word, orReserved, cmdOf_of_bit0 h0]

/-- A word that codes another command than SRST runs it while idle and clears CMD_ERR; while busy it sets CMD_ERR. -/
theorem ctrlWrite_command {i : Instr} (hcmd : cmdOf w.toNat = some i) (hi : i ≠ .srst) :
    ctrlWrite w s = if s.csr.busy then .next (s.setCmdErr true) else exec i (s.setCmdErr false) := by
  simp only [ctrlWrite, decode_cmd_word, orReserved, hcmd]

/-- A word that codes no command sets CMD_ERR if it has a command bit, and does nothing otherwise. -/
theorem ctrlWrite_noCommand (hcmd : cmdOf w.toNat = none) :
    ctrlWrite w s = if w.toNat / 2 % 8 = 0 then .next s else .next (s.setCmdErr true) := by
  simp only [ctrlWrite, decode_cmd_word, orReserved, hcmd]

/-- While idle the command that the bits 1 to 3 name is taken. -/
theorem ctrlWrite_taken {i : Instr} (h0 : w.getLsbD 0 = false) (hb : s.csr.busy = false)
    (hi : commandOfBits (w.getLsbD 1) (w.getLsbD 2) (w.getLsbD 3) = some i) :
    ctrlWrite w s = exec i (s.setCmdErr false) := by
  have hne : i ≠ .srst := fun e => commandOfBits_ne_srst _ _ _ (e ▸ hi)
  rw [ctrlWrite_command s ((cmdOf_of_not_bit0 h0).trans hi) hne, hb]
  rfl

/-- A command bit while busy, or without a command that it names, sets CMD_ERR. -/
theorem ctrlWrite_refused (h0 : w.getLsbD 0 = false) (hbits : (w.getLsbD 1 || w.getLsbD 2 || w.getLsbD 3) = true)
    (hno : s.csr.busy = true ∨ commandOfBits (w.getLsbD 1) (w.getLsbD 2) (w.getLsbD 3) = none) :
    ctrlWrite w s = .next (s.setCmdErr true) := by
  rw [← cmdOf_of_not_bit0 h0] at hno
  cases hcmd : cmdOf w.toNat with
  | none => rw [ctrlWrite_noCommand s hcmd, if_neg (by rw [commandBits_eq_zero, hbits]; exact nofun)]
  | some i =>
    have hne : i ≠ .srst := fun e => commandOfBits_ne_srst _ _ _ (e ▸ (cmdOf_of_not_bit0 h0).symm.trans hcmd)
    have hb : s.csr.busy = true := hno.resolve_right (by simp [hcmd])
    rw [ctrlWrite_command s hcmd hne, if_pos hb]

/-- A word without a command bit does nothing. -/
theorem ctrlWrite_noBits (h0 : w.getLsbD 0 = false) (hbits : (w.getLsbD 1 || w.getLsbD 2 || w.getLsbD 3) = false) :
    ctrlWrite w s = .next s := by
  have hcmd : cmdOf w.toNat = none := by
    obtain ⟨⟨h1, h2⟩, h3⟩ : (w.getLsbD 1 = false ∧ w.getLsbD 2 = false) ∧ w.getLsbD 3 = false := by
      simpa only [Bool.or_eq_false_iff] using hbits
    rw [cmdOf_of_not_bit0 h0, h1, h2, h3]
    rfl
  rw [ctrlWrite_noCommand s hcmd, if_pos ((commandBits_eq_zero w).2 hbits)]

end

/-- Settles O7, by what a CTRL write does in each case of the command bits. -/
theorem commandAcceptance : Obligations.CommandAcceptance := by
  intro s w q hw
  rw [step_ctrlWrite hw]
  refine ⟨fun h0 => ctrlWrite_srst _ h0, fun h0 => ⟨fun hb h1 h2 h3 => ?_, fun hb h1 h2 h3 => ?_, fun hb h1 h2 h3 => ?_,
    fun hany hno => ?_, fun hnone => ctrlWrite_noBits _ h0 hnone⟩⟩
  · exact ctrlWrite_taken (s.setHost q) h0 hb (by rw [h1, h2, h3]; rfl)
  · exact ctrlWrite_taken (s.setHost q) h0 hb (by rw [h1, h2, h3]; rfl)
  · exact ctrlWrite_taken (s.setHost q) h0 hb (by rw [h1, h2, h3]; rfl)
  · exact ctrlWrite_refused (s.setHost q) h0 hany (hno.imp_right commandOfBits_of_two)

/-! ## Other register writes -/

/-- An address register keeps the low `ADDR_W` bits. -/
theorem addrMask_toNat (s : State) (v : Word) : (s.addrMask v).toNat = v.toNat % 2 ^ s.params.addrW := by
  rw [State.addrMask, BitVec.toNat_ofNat]
  exact Nat.mod_eq_of_lt (Nat.lt_of_le_of_lt (Nat.mod_le _ _) v.isLt)

theorem anyInUse_eq_false {s : State} : s.anyInUse = false ↔ ∀ f ∈ s.fs, f.inUse = false := by
  simp [State.anyInUse]

theorem anyInUse_eq_true {s : State} : s.anyInUse = true ↔ ∃ f ∈ s.fs, f.inUse = true := by
  simp [State.anyInUse]

section
variable (s : State) (v : Word)

theorem writeReg_nalAddr :
    s.writeReg 0x08 v = if s.csr.busy then s else s.setCsr { s.csr with nalAddr := s.addrMask v } := rfl

theorem writeReg_nalLen : s.writeReg 0x0C v = if s.csr.busy then s else s.setCsr { s.csr with nalLen := v } := rfl

theorem writeReg_relHandle : s.writeReg 0x24 v = s.setCsr { s.csr with relHandle := v.setWidth 8 } := rfl

theorem writeReg_frameBase :
    s.writeReg 0x28 v = if s.anyInUse then s else s.setCsr { s.csr with frameBase := s.addrMask v } := rfl

end

theorem writeReg_unwritable (s : State) {off : Nat} (v : Word) (h : off ∉ [0x04, 0x08, 0x0C, 0x24, 0x28]) :
    s.writeReg off v = s := by
  unfold State.writeReg
  split
  case h_5 => rfl
  all_goals simp at h

/-- Settles O8, by what `writeReg` does at each offset. -/
theorem registerWrites : Obligations.RegisterWrites := by
  refine ⟨fun s w q hb => ?_, fun s w q hb hw => ?_⟩
  · have hidle {off} (ha : off % 4 = 0) (hc : off ≠ 0x04) (h : s.writes off w q) :
        step s = .next ((s.setHost q).writeReg off w) := step_writeReg h ha hc (by simp [hb])
    refine ⟨fun h => ⟨s.addrMask w, addrMask_toNat s w, ?_⟩, fun h => ?_, fun h => ⟨w.setWidth 8, by simp, ?_⟩,
      fun h hfree => ⟨s.addrMask w, addrMask_toNat s w, ?_⟩, fun h huse => ?_, fun off ha hoff h => ?_⟩
    · rw [hidle rfl (by decide) h, writeReg_nalAddr, setHost_csr, hb]
      rfl
    · rw [hidle rfl (by decide) h, writeReg_nalLen, setHost_csr, hb]
      rfl
    · rw [hidle rfl (by decide) h, writeReg_relHandle, setHost_csr]
    · have hany : (s.setHost q).anyInUse = false := anyInUse_eq_false.2 hfree
      rw [hidle rfl (by decide) h, writeReg_frameBase, hany]
      rfl
    · have hany : (s.setHost q).anyInUse = true := anyInUse_eq_true.2 huse
      rw [hidle rfl (by decide) h, writeReg_frameBase, if_pos hany]
    · rw [hidle ha (by rintro rfl; simp at hoff) h, writeReg_unwritable _ _ hoff]
  · rcases hw with h | h
    · rw [step_writeReg h rfl (by decide) fun _ _ => .inl rfl, writeReg_nalAddr, setHost_csr, if_pos hb]
    · rw [step_writeReg h rfl (by decide) fun _ _ => .inr rfl, writeReg_nalLen, setHost_csr, if_pos hb]

/-! ## Register reads -/

/-- 10_state.md R60. -/
theorem regValue_unlisted (s : State) {off : Nat} (h : off > 0x2C) : s.regValue off = 0 := by
  unfold State.regValue
  split
  case h_12 => rfl
  all_goals omega

theorem before_eq_none (b : Bus) {off : Nat} (h : off ∉ [0x10, 0x14, 0x18, 0x1C, 0x20, 0x2C]) : b.before off = none := by
  unfold Bus.before
  split
  case h_7 => rfl
  all_goals simp at h

/-- A read gives the register's value when idle, and when it is no register that a command writes. -/
theorem readReg_steady {s : State} {off : Nat} (h : s.csr.busy = false ∨ s.bus.before off = none) :
    s.readReg off = s.deliver (s.regValue off) := by
  unfold State.readReg
  split
  · rename_i old hb hold
    simp [hb, hold] at h
  · rfl

/-- While busy a read of a register that a command writes draws one of three values (70_reset_and_hazards.md R867). -/
theorem readReg_racy {s : State} {off : Nat} {old : Word} (hb : s.csr.busy = true) (hold : s.bus.before off = some old) :
    ∃ v, (v = old ∨ v = s.regValue off ∨ v = Config.freeWord s.freeCtr) ∧ s.readReg off = (s.deliver v).drawn 1 := by
  simp only [State.readReg, hb, hold]
  refine ⟨_, ?_, rfl⟩
  split
  · exact .inl rfl
  · exact .inr (.inl rfl)
  · exact .inr (.inr rfl)

/-- Settles O9: an idle or steady read gives the value now, a racy one draws one of three. -/
theorem registerReads : Obligations.RegisterReads := by
  refine ⟨fun s off q hb ha h => ⟨s.regValue off, ?_, ?_⟩, fun s off q hb h => ⟨fun old hr => ?_, fun ha hoff => ?_⟩⟩
  · rw [step_readReg h ha, readReg_steady (s := s.setHost q) (.inl hb)]
    rfl
  · refine ⟨?_, ?_, ?_, ?_, ?_, ?_, ?_, ?_, ?_, ?_, ?_, ?_, fun hoff => regValue_unlisted s hoff⟩ <;> rintro rfl
    case refine_10 => exact BitVec.toNat_setWidth_of_le (by decide)
    all_goals rfl
  · obtain ⟨ha, hold⟩ : off % 4 = 0 ∧ s.bus.before off = some old := by
      rcases hr with ⟨rfl, rfl⟩ | ⟨rfl, rfl⟩ | ⟨rfl, rfl⟩ | ⟨rfl, rfl⟩ | ⟨rfl, rfl⟩ | ⟨rfl, rfl⟩ <;> exact ⟨rfl, rfl⟩
    obtain ⟨v, hv, hread⟩ := readReg_racy (s := s.setHost q) hb hold
    exact ⟨v, hv, by rw [step_readReg h ha, hread]; rfl⟩
  · rw [step_readReg h ha, readReg_steady (s := s.setHost q) (.inr (before_eq_none _ hoff))]
    rfl

/-! ## STATUS (10_state.md R65) -/

theorem fsm_code_le (f : Fsm) : f.code ≤ 4 := by cases f <;> decide

theorem statusFields_le (c : Csr) :
    c.busy.toNat ≤ 1 ∧ c.fsm.code ≤ 4 ∧ c.auErr.toNat ≤ 1 ∧ c.sliceErr.toNat ≤ 1 ∧ c.warnIpcm.toNat ≤ 1 ∧
      c.frameValid.toNat ≤ 1 ∧ c.cmdErr.toNat ≤ 1 ∧ c.errCode.toNat < 256 :=
  ⟨Bool.toNat_le _, fsm_code_le _, Bool.toNat_le _, Bool.toNat_le _, Bool.toNat_le _, Bool.toNat_le _, Bool.toNat_le _,
    c.errCode.isLt⟩

/-- The fields of STATUS fit the word. -/
theorem statusWord_toNat (c : Csr) :
    c.statusWord.toNat = c.busy.toNat + 2 * c.fsm.code + 16 * c.auErr.toNat + 32 * c.sliceErr.toNat
      + 64 * c.warnIpcm.toNat + 128 * c.frameValid.toNat + 256 * c.cmdErr.toNat + 65536 * c.errCode.toNat := by
  have hle := statusFields_le c
  rw [Csr.statusWord, BitVec.toNat_ofNat]
  omega

/-- A bit of a word by its binary digit. -/
theorem getLsbD_of_digit {w : Word} {i : Nat} {b : Bool} (h : w.toNat / 2 ^ i % 2 = b.toNat) : w.getLsbD i = b := by
  rw [BitVec.getLsbD, Nat.testBit_eq_decide_div_mod_eq, h]
  cases b <;> rfl

/-- Settles O10: each field is a digit of the value that `statusWord_toNat` gives. -/
theorem statusLayout : Obligations.StatusLayout := by
  intro c
  have hw := statusWord_toNat c
  have hle := statusFields_le c
  have hext (k n : Nat) : (c.statusWord.extractLsb' k n).toNat = c.statusWord.toNat / 2 ^ k % 2 ^ n := by
    rw [BitVec.extractLsb'_toNat, Nat.shiftRight_eq_div_pow]
  refine ⟨getLsbD_of_digit ?_, ?_, getLsbD_of_digit ?_, getLsbD_of_digit ?_, getLsbD_of_digit ?_, getLsbD_of_digit ?_,
    getLsbD_of_digit ?_, BitVec.eq_of_toNat_eq ?_, BitVec.eq_of_toNat_eq ?_, BitVec.eq_of_toNat_eq ?_⟩
  case refine_2 =>
    have hcode : (c.statusWord.extractLsb' 1 3).toNat = c.fsm.code := by rw [hext]; omega
    rw [hcode]
    cases c.fsm <;> rfl
  case refine_8 | refine_10 =>
    rw [hext]
    change _ = 0
    omega
  case refine_9 =>
    rw [hext]
    omega
  all_goals omega

/-! ## RELEASE (10_state.md R72) -/

theorem exec_release (s : State) : exec .release s = .next s.release := rfl

theorem release_outOfRange {s : State} (h : s.csr.relHandle.toNat ≥ s.params.numFrames) : s.release = s.setCmdErr true :=
  if_pos h

/-- The frame that RELEASE leaves at its handle. -/
def State.releasedFrame (s : State) (h : Nat) (f : Frame) : Frame :=
  { f with held := false, inUse := if f.mark = .unused ∧ s.au.curFrame ≠ some h then false else f.inUse }

theorem release_inRange {s : State} (h : s.csr.relHandle.toNat < s.params.numFrames) :
    s.release = s.updFrame s.csr.relHandle.toNat (s.releasedFrame s.csr.relHandle.toNat) :=
  if_neg (Nat.not_le.2 h)

/-- A free frame stays as it is. -/
theorem releasedFrame_free (s : State) (h : Nat) : s.releasedFrame h Frame.free = Frame.free := by
  simp [State.releasedFrame, Frame.free]

/-- The frame of RELEASE's handle afterwards, also when the table has no such frame. -/
theorem frame_released (s : State) (h : Nat) :
    (s.updFrame h (s.releasedFrame h)).frame h = s.releasedFrame h (s.frame h) := by
  rw [frame_updFrame]
  split
  · rfl
  · rename_i hout
    have hlen : s.fs.length ≤ h := Nat.le_of_not_lt fun hlt => hout ⟨rfl, hlt⟩
    have hfree : s.frame h = Frame.free := by
      rw [State.frame, List.getD_eq_getElem?_getD, List.getElem?_eq_none hlen, Option.getD_none]
    rw [hfree, releasedFrame_free]

/-- Settles O17, with the frame after RELEASE as `frame_released` gives it. -/
theorem releaseFreesTheFrame : Obligations.ReleaseFreesTheFrame := by
  intro s
  refine ⟨fun hr => ?_, fun hr => ⟨s.updFrame s.csr.relHandle.toNat (s.releasedFrame s.csr.relHandle.toNat), ?_, rfl,
    ⟨updFrame_length .., fun g hg => ?_⟩, frame_released _ _⟩⟩
  · rw [exec_release, release_outOfRange hr]
    rfl
  · rw [exec_release, release_inRange hr]
  · rw [frame_updFrame, if_neg fun hand => hg hand.1]

/-! ## Reset -/

theorem reset_sizesOk : State.reset.sizesOk = true := by
  simp only [State.sizesOk, Bool.and_eq_true, decide_eq_true_eq]
  exact ⟨⟨⟨List.length_replicate, List.length_replicate⟩, List.length_replicate⟩, List.length_replicate⟩

/-- Settles O12: memory is empty, and the other checks are of fixed values. -/
theorem resetIsSound : Obligations.ResetIsSound :=
  ⟨rfl, reset_sizesOk, by decide, by decide⟩

end Sys2Proof.Machine
end

section
/-! PROOFS. Memory (20_memory.md): every step keeps a sound state sound, no operation writes memory, and the write-back writes one macroblock. -/

namespace Sys2Proof.Machine

/-! ## Operations and memory (20_memory.md R103) -/

theorem byteAt_congr {s t : State} (h : t.mem = s.mem) (a : Nat) : t.byteAt a = s.byteAt a := by
  rw [State.byteAt, State.byteAt, h]

/-- Settles O14: SRST keeps memory and the tables' sizes, and every other operation is quiet. -/
theorem operationsLeaveMemoryAlone : Obligations.OperationsLeaveMemoryAlone := by
  intro i s t h
  by_cases hi : i = .srst
  · subst hi
    cases h
    exact ⟨fun _ => rfl, rfl, rfl, List.length_map .., List.length_map .., fun hne => absurd rfl hne⟩
  · have q := exec_quiet s t (.refl s) i hi h
    exact ⟨byteAt_congr q.mem, q.params, q.host, q.fs, q.dbk,
      fun _ => ⟨q.nalAddr, q.nalLen, q.relHandle, q.frameBase, q.sps, q.pps⟩⟩

/-! ## Sound outcomes -/

theorem addressesOk_iff (s : State) :
    s.addressesOk = true ↔
      s.csr.nalAddr.toNat < 2 ^ s.params.addrW ∧ s.csr.frameBase.toNat < 2 ^ s.params.addrW := by
  simp [State.addressesOk]

theorem sizesOk_iff (s : State) :
    s.sizesOk = true ↔ s.sps.length = 32 ∧ s.pps.length = 256 ∧ s.fs.length = s.params.numFrames ∧
      s.dbk.length = s.params.numFrames := by
  simp [State.sizesOk, and_assoc]

/-- The host's queue has no part in soundness. -/
theorem State.Inv.setHost {s : State} (hi : s.Inv) (q : List (Nat × HostEvent)) : (s.setHost q).Inv := hi

/-- Registers whose errors agree and whose addresses are in range keep soundness. -/
theorem State.Inv.setCsr {s : State} (hi : s.Inv) {c : Csr} (herr : c.errorsOk = true)
    (hnal : c.nalAddr.toNat < 2 ^ s.params.addrW) (hbase : c.frameBase.toNat < 2 ^ s.params.addrW) : (s.setCsr c).Inv := by
  obtain ⟨hmem, hsize, -, -⟩ := hi
  exact ⟨hmem, hsize, herr, (addressesOk_iff _).2 ⟨hnal, hbase⟩⟩

theorem csrReset_errorsOk : Csr.reset.errorsOk = true := by decide

/-- SRST keeps memory and the sizes of the frame tables, and gives everything else of soundness its reset value. -/
theorem softReset_inv {s : State} (hi : s.Inv) : s.softReset.Inv := by
  obtain ⟨hmem, hsize, -, -⟩ := hi
  obtain ⟨-, -, hfs, hdbk⟩ := (sizesOk_iff s).1 hsize
  have hpos : 0 < 2 ^ s.params.addrW := Nat.two_pow_pos _
  refine ⟨hmem, (sizesOk_iff _).2 ⟨List.length_replicate, List.length_replicate, ?_, ?_⟩, csrReset_errorsOk,
    (addressesOk_iff _).2 ⟨hpos, hpos⟩⟩
  · rw [softReset_fs, softReset_params, List.length_map, hfs]
  · rw [softReset_dbk, softReset_params, List.length_map, hdbk]

theorem State.Inv.setBr {s : State} (hi : s.Inv) (b : Br) : (s.setBr b).Inv := ((Quiet.refl s).setBr b).inv hi

/-- An outcome that is sound if it goes on. -/
def SoundOutcome (o : Host.Outcome State Fault Refusal) : Prop := ∀ t, o = .next t → t.Inv

namespace SoundOutcome

theorem next {s : State} (hi : s.Inv) : SoundOutcome (.next s) := by
  rintro t ⟨⟩
  exact hi

theorem fault (f : Fault) : SoundOutcome (.fault f) := fun _ h => by cases h

theorem refused (r : Refusal) : SoundOutcome (.refused r) := fun _ h => by cases h

theorem ite {p : Prop} [Decidable p] {a b : Host.Outcome State Fault Refusal} (ha : SoundOutcome a) (hb : SoundOutcome b) :
    SoundOutcome (if p then a else b) := by
  split
  · exact ha
  · exact hb

section
variable {s : State} (hi : s.Inv)
include hi

theorem exec (i : Instr) : SoundOutcome (exec i s) := by
  intro t h
  by_cases hsrst : i = .srst
  · subst hsrst
    cases h
    exact softReset_inv hi
  · exact (exec_quiet s t (.refl s) i hsrst h).inv hi

/-! ### Fetching the next operation -/

theorem raise (e : ErrCode) : SoundOutcome (.next (s.raise e)) := next (((Quiet.refl s).raise e).inv hi)

theorem runCode (sp : Space) (v : Nat) : SoundOutcome (runCode sp v s) := by
  unfold Machine.runCode
  split
  · exact exec hi _
  · exact raise hi _

theorem fetchBits (sp : Space) : SoundOutcome (fetchBits sp s) := by
  unfold Machine.fetchBits
  split
  · exact exec (hi.setBr _) _
  · exact raise (hi.setBr _) _

theorem fetchAe (sp : Space) (r : Rd Nat) : SoundOutcome (fetchAe sp r s) := by
  unfold Machine.fetchAe
  split
  · exact runCode (((Quiet.refl s).setPs _).inv hi) _ _
  · exact raise ((((Quiet.refl s).setBr _).setCabac _).inv hi) _

theorem fetchSliceType : SoundOutcome (fetchSliceType s) := by
  unfold Machine.fetchSliceType
  split
  · dsimp only
    split
    · exact exec (hi.setBr _) _
    · exact next (((Quiet.refl _).updSl _).inv (hi.setBr _))
  · exact raise (hi.setBr _) _

theorem runKept (sp : Space) (n : List Bool × Wk) : SoundOutcome (runKept sp n s) := by
  unfold Machine.runKept
  split
  · exact exec (((Quiet.refl s).setWk _).inv hi) _
  · exact raise hi _

theorem fetch (sp : Space) : SoundOutcome (fetch sp s) :=
  match sp with
  | .nalHdr => runCode hi _ _
  | .sliceType => fetchSliceType hi
  | .mbI | .mbP | .mbB | .subP | .subB => ite (fetchAe hi _ _) (fetchBits hi _)
  | .rplm | .mmco => runKept hi _ _
  | .desc d => runCode hi (.desc d) 0
  | .skipP => runCode hi .skipP 0
  | .skipB => runCode hi .skipB 0
  | .cmd | .i4Mode | .i8Mode | .i16Mode | .chromaMode | .qpel | .cpel | .xform | .sgMap | .pocType => fetchBits hi _

end

end SoundOutcome

/-! ## Pending work -/

/-- The write-back writes memory byte by byte, and keeps the sizes of the tables that hold its records. -/
theorem writeBack_inv {s : State} (hi : s.Inv) : s.writeBack.Inv := by
  have hmem : (s.setMem (Mem.writeAll s.mem s.mbWrites)).Inv := hi.setMem _ (Mem.wf_writeAll _ _ hi.1)
  exact (((((Quiet.refl _).setAu _).updFrame _ _).updDbk _ _).setMb _ |>.setDs _).inv hmem

theorem doTask_sound {s : State} (hi : s.Inv) (t : Task) : SoundOutcome (doTask t s) := by
  have quiet {u : State} (q : Quiet s u) : SoundOutcome (.next u) := .next (q.inv hi)
  have r := Quiet.refl s
  exact match t with
  | .op sp v => .runCode hi sp v
  | .fetch sp => .fetch hi sp
  | .nalDone => quiet r.nalDone
  | .firstMb => quiet r.firstMb
  | .sliceHeader => quiet r.sliceHeader
  | .alloc => quiet r.alloc
  | .allocFinish h => .ite (.next (allocFinish_inv hi h)) (.fault _)
  | .lists => quiet r.initRefLists
  | .rplmStart x => quiet (r.rplmStart x)
  | .initSlice => quiet r.initSlice
  | .loopTop => quiet r.loopTop
  | .skipRun => quiet r.skipRun
  | .skipLoop n => quiet (r.skipLoop n)
  | .skipNext n => quiet (r.skipNext n)
  | .skipFlag => quiet r.skipFlag
  | .mbStart b => quiet (r.mbStart b)
  | .loopEnd => quiet r.loopEnd
  | .endFlag => quiet r.endFlag
  | .advance => quiet (r.nextMb _)
  | .mbRest => quiet r.mbRest
  | .i4Mode k => quiet (r.i4Mode k)
  | .i8Mode k => quiet (r.i8Mode k)
  | .luma4x4 k => quiet (r.luma4x4 k)
  | .luma8x8 k => quiet (r.luma8x8 k)
  | .lumaDc => quiet r.lumaDc
  | .chromaDc c => quiet (r.chromaDc c)
  | .chromaAc c k => quiet (r.chromaAc c k)
  | .chromaPred c => quiet (r.chromaPred c)
  | .part i => quiet (r.startPart i)
  | .predLuma x => quiet (r.predLuma x)
  | .predChroma x c => quiet (r.predChroma x c)
  | .weight => quiet r.weightPart
  | .writeBack => .next (writeBack_inv hi)
  | .auEndFinish => quiet r.auEndFinish

theorem work_sound {s : State} (hi : s.Inv) : SoundOutcome (work s) := by
  unfold work
  split
  · exact .next hi
  · exact doTask_sound (((Quiet.refl s).setTasks _).inv hi) _

/-! ## The host's acts -/

theorem ctrlWrite_sound {s : State} (hi : s.Inv) (w : Word) : SoundOutcome (ctrlWrite w s) := by
  have cmdErr (b : Bool) : (s.setCmdErr b).Inv := ((Quiet.refl s).setCmdErr b).inv hi
  unfold ctrlWrite
  split
  · exact .exec hi _
  · exact .ite (.next (cmdErr _)) (.exec (cmdErr _) _)
  · exact .ite (.next hi) (.next (cmdErr _))

/-- An address register that the host writes holds an address (10_state.md R64, R69). -/
theorem addrMask_lt (s : State) (v : Word) : (s.addrMask v).toNat < 2 ^ s.params.addrW := by
  rw [addrMask_toNat]
  exact Nat.mod_lt _ (Nat.two_pow_pos _)

theorem writeReg_inv {s : State} (hi : s.Inv) (off : Nat) (v : Word) : (s.writeReg off v).Inv := by
  have ⟨_, _, herr, haddr⟩ := hi
  obtain ⟨hnal, hbase⟩ := (addressesOk_iff s).1 haddr
  unfold State.writeReg
  split
  · split
    · exact hi
    · exact hi.setCsr herr (addrMask_lt s v) hbase
  · split
    · exact hi
    · exact hi.setCsr herr hnal hbase
  · exact hi.setCsr herr hnal hbase
  · split
    · exact hi
    · exact hi.setCsr herr hnal (addrMask_lt s v)
  · exact hi

theorem hostRegWrite_sound {s : State} (hi : s.Inv) (addr size : Nat) (v : Word) :
    SoundOutcome (hostRegWrite addr size v s) := by
  unfold hostRegWrite
  split
  · exact .refused _
  · exact .ite (ctrlWrite_sound hi v) (.ite (.refused _) (.next (writeReg_inv hi _ v)))

theorem Quiet.deliver {s u : State} (h : Quiet s u) (v : Word) : Quiet s (u.deliver v) := h.setBus _

theorem Quiet.readReg {s u : State} (h : Quiet s u) (off : Nat) : Quiet s (u.readReg off) := by
  unfold State.readReg
  split
  · exact (h.deliver _).drawn 1
  · exact h.deliver _

theorem hostRegRead_sound {s : State} (hi : s.Inv) (addr size : Nat) : SoundOutcome (hostRegRead addr size s) := by
  unfold hostRegRead
  split
  · exact .refused _
  · exact .next (((Quiet.refl s).readReg _).inv hi)

theorem hostMemWrite_sound {s : State} (hi : s.Inv) (a : Nat) (v : Byte) : SoundOutcome (hostMemWrite a v s) :=
  .ite (.refused _) (.ite (.refused _) (.ite (.next (hi.setMem _ (Mem.wf_write _ a v hi.1))) (.refused _)))

theorem hostMemRead_sound {s : State} (hi : s.Inv) (a : Nat) : SoundOutcome (hostMemRead a s) := by
  have deliver (v : Word) : Quiet s (s.deliver v) := (Quiet.refl s).deliver v
  unfold hostMemRead
  refine .ite (.refused _) ?_
  split
  · exact .next ((deliver _).inv hi)
  · exact .ite (.next (((deliver _).drawn 1).inv hi)) (.ite (.next ((deliver _).inv hi)) (.refused _))

theorem hostEvent_sound {s : State} (hi : s.Inv) (e : HostEvent) : SoundOutcome (hostEvent e s) :=
  match e with
  | .regWrite addr size v => hostRegWrite_sound hi addr size v
  | .regRead addr size => hostRegRead_sound hi addr size
  | .memWrite a v => hostMemWrite_sound hi a v
  | .memRead a => hostMemRead_sound hi a

/-- Settles O13: a step is an act of the host or the block's next piece of work, and each keeps soundness. -/
theorem stepKeepsSoundness : Obligations.StepKeepsSoundness := by
  intro s t hi
  unfold step
  split
  · exact hostEvent_sound (hi.setHost _) _ t
  · exact work_sound (hi.setHost _) t
  · exact work_sound hi t

/-! ## Reading back several writes -/

/-- A write's value is what a read gives, when every write of the list at that address has this value. -/
theorem Mem.read_writeAll_of_mem {ws : List (Nat × Byte)} {a : Nat} {v : Byte} (hmem : (a, v) ∈ ws)
    (hall : ∀ w ∈ ws, w.1 = a → w.2 = v) (m : List Host.Cell) : Mem.read (Mem.writeAll m ws) a = some v := by
  induction ws generalizing m with
  | nil => cases hmem
  | cons w ws ih =>
    change Mem.read (Mem.writeAll (Mem.write m w.1 w.2) ws) a = some v
    have hrest : ∀ x ∈ ws, x.1 = a → x.2 = v := fun x hx => hall x (List.mem_cons_of_mem _ hx)
    by_cases hlater : (a, v) ∈ ws
    · exact ih hlater hrest _
    · have hfirst : w = (a, v) := ((List.mem_cons.1 hmem).resolve_right hlater).symm
      have hother : ∀ x ∈ ws, x.1 ≠ a := fun x hx hxa => hlater (by rwa [← hxa, ← hrest x hx hxa])
      rw [Mem.read_writeAll_other _ _ _ hother, hfirst, Mem.read_write_same]

/-! ## Addresses of samples (20_memory.md R102) -/

/-- The first byte of a plane, from the frame's first byte. -/
def planeBase (f : Frame) (plane : Nat) : Nat :=
  if plane = 0 then 0 else if plane = 1 then f.w * f.h else f.w * f.h + f.w / 2 * (f.h / 2)

theorem sampleAddr_eq (s : State) (h plane x y : Nat) :
    s.sampleAddr h plane x y =
      s.frameStart h + planeBase (s.frame h) plane + (y * planeW (s.frame h) plane + x) :=
  Nat.add_assoc ..

/-- A plane ends where a later one begins, or before. -/
theorem planeBase_add_size_le (f : Frame) {c d : Nat} (hcd : c < d) (hd : d ≤ 2) :
    planeBase f c + planeH f c * planeW f c ≤ planeBase f d := by
  obtain ⟨rfl, rfl⟩ | ⟨rfl, rfl⟩ | ⟨rfl, rfl⟩ : (c = 0 ∧ d = 1) ∨ (c = 0 ∧ d = 2) ∨ (c = 1 ∧ d = 2) := by omega
  all_goals simp [planeBase, planeH, planeW, Nat.mul_comm]

/-- Row by row, a sample of a plane comes before the plane's end. -/
theorem row_major_lt {x y w h : Nat} (hx : x < w) (hy : y < h) : y * w + x < h * w :=
  calc y * w + x < (y + 1) * w := by rw [Nat.add_one_mul]; omega
    _ ≤ h * w := Nat.mul_le_mul_right w hy

/-- Row by row, the place of a sample tells its column and row. -/
theorem row_major_inj {x y x' y' w : Nat} (hx : x < w) (hx' : x' < w) (h : y * w + x = y' * w + x') :
    x = x' ∧ y = y' := by
  have hw : 0 < w := by omega
  have hcol : (y * w + x) % w = (y' * w + x') % w := by rw [h]
  have hrow : (y * w + x) / w = (y' * w + x') / w := by rw [h]
  simp only [Nat.mul_add_mod_self_right, Nat.mod_eq_of_lt hx, Nat.mod_eq_of_lt hx'] at hcol
  simp only [Nat.mul_comm _ w, Nat.mul_add_div hw, Nat.div_eq_of_lt hx, Nat.div_eq_of_lt hx', Nat.add_zero] at hrow
  exact ⟨hcol, hrow⟩

/-- A sample of the picture: a plane, a column and a row of it. -/
def Frame.HasSample (f : Frame) (c x y : Nat) : Prop := c ≤ 2 ∧ x < planeW f c ∧ y < planeH f c

theorem sampleAddr_lt_of_plane_lt {s : State} {h c x y d x' y' : Nat} (hs : (s.frame h).HasSample c x y)
    (hd : d ≤ 2) (hcd : c < d) : s.sampleAddr h c x y < s.sampleAddr h d x' y' := by
  obtain ⟨-, hx, hy⟩ := hs
  have hin := row_major_lt hx hy
  have hbase := planeBase_add_size_le (s.frame h) hcd hd
  rw [sampleAddr_eq, sampleAddr_eq]
  omega

/-- Different samples of a frame have different addresses. -/
theorem sampleAddr_inj {s : State} {h c x y c' x' y' : Nat} (hs : (s.frame h).HasSample c x y)
    (hs' : (s.frame h).HasSample c' x' y') (e : s.sampleAddr h c x y = s.sampleAddr h c' x' y') :
    c = c' ∧ x = x' ∧ y = y' := by
  have ⟨hc, hx, _⟩ := hs
  have ⟨hc', hx', _⟩ := hs'
  rcases Nat.lt_trichotomy c c' with hlt | rfl | hlt
  · exact absurd e (Nat.ne_of_lt (sampleAddr_lt_of_plane_lt hs hc' hlt))
  · rw [sampleAddr_eq, sampleAddr_eq] at e
    exact ⟨rfl, row_major_inj hx hx' (Nat.add_left_cancel e)⟩
  · exact absurd e (Nat.ne_of_gt (sampleAddr_lt_of_plane_lt hs' hc hlt))

/-! ## The write-back (43_slice_fsm.md R371 steps 4-6) -/

/-- The side of a macroblock in a plane. -/
def mbSide (c : Nat) : Nat := if c = 0 then 16 else 8

/-- The address of a sample of the macroblock. -/
def State.mbSampleAddr (s : State) (c x y : Nat) : Nat :=
  s.sampleAddr s.cur c (mbSide c * s.mbX + x) (mbSide c * s.mbY + y)

/-- The byte of a sample of the macroblock. -/
def State.mbByte (s : State) (c x y : Nat) : Byte := BitVec.ofInt 8 (at0 (s.mb.recon c) (mbSide c * y + x))

/-- The writes of a plane, by column and row. -/
theorem mem_planeWrites {s : State} {c n : Nat} {recon : List Int} {w : Nat × Byte} :
    w ∈ s.planeWrites c n recon ↔ ∃ x y, x < n ∧ y < n ∧
      w = (s.sampleAddr s.cur c (n * s.mbX + x) (n * s.mbY + y), BitVec.ofInt 8 (at0 recon (n * y + x))) := by
  simp only [State.planeWrites, List.mem_map, List.mem_range]
  constructor
  · rintro ⟨i, hi, rfl⟩
    have hn : 0 < n := Nat.pos_of_ne_zero (by rintro rfl; simp at hi)
    exact ⟨i % n, i / n, Nat.mod_lt _ hn, Nat.div_lt_of_lt_mul hi, by rw [Nat.div_add_mod]⟩
  · rintro ⟨x, y, hx, hy, rfl⟩
    refine ⟨n * y + x, by rw [Nat.mul_comm n y]; exact row_major_lt hx hy, ?_⟩
    rw [Nat.mul_add_mod, Nat.mod_eq_of_lt hx, Nat.mul_add_div (by omega), Nat.div_eq_of_lt hx, Nat.add_zero]

/-- The writes of the macroblock, by plane, column and row. -/
theorem mem_mbWrites {s : State} {w : Nat × Byte} :
    w ∈ s.mbWrites ↔ ∃ c x y, c ≤ 2 ∧ x < mbSide c ∧ y < mbSide c ∧ w = (s.mbSampleAddr c x y, s.mbByte c x y) := by
  simp only [State.mbWrites, List.mem_append, mem_planeWrites]
  constructor
  · rintro ((⟨x, y, h⟩ | ⟨x, y, h⟩) | ⟨x, y, h⟩)
    · exact ⟨0, x, y, by decide, h⟩
    · exact ⟨1, x, y, by decide, h⟩
    · exact ⟨2, x, y, by decide, h⟩
  · rintro ⟨c, x, y, hc, h⟩
    obtain rfl | rfl | rfl : c = 0 ∨ c = 1 ∨ c = 2 := by omega
    · exact .inl (.inl ⟨x, y, h⟩)
    · exact .inl (.inr ⟨x, y, h⟩)
    · exact .inr ⟨x, y, h⟩

/-- The motion of the macroblock as the current frame keeps it (43_slice_fsm.md R385). -/
def State.mbMotion (s : State) : MbMotion := ⟨s.wk.cur.isIntra, s.wk.cur.motion0, s.wk.cur.motion1⟩

/-! What the write-back leaves in each field, by the setters that it is made of. -/

section
variable (s : State)

theorem writeBack_mem : s.writeBack.mem = Mem.writeAll s.mem s.mbWrites := by simp [State.writeBack]

theorem writeBack_au : s.writeBack.au = { s.au with mbInfo := s.au.mbInfo.set s.ds.currMbAddr s.finalInfo } := by
  simp [State.writeBack]

theorem writeBack_fs :
    s.writeBack.fs = s.fs.modify s.cur fun f => { f with motion := f.motion.set s.ds.currMbAddr s.mbMotion } := by
  simp [State.writeBack, State.mbMotion, State.finalInfo]

theorem writeBack_dbk :
    s.writeBack.dbk =
      s.dbk.modify s.cur fun d => { d with mbs := d.mbs.set s.ds.currMbAddr (dbkOf s.hdr.pps.cabac s.finalInfo) } := by
  simp [State.writeBack]

@[simp] theorem writeBack_mb : s.writeBack.mb = MbRec.cleared := by simp [State.writeBack]
@[simp] theorem writeBack_ds : s.writeBack.ds = { s.ds with mbCount := s.ds.mbCount + 1 } := by simp [State.writeBack]
@[simp] theorem writeBack_csr : s.writeBack.csr = s.csr := by simp [State.writeBack]
@[simp] theorem writeBack_tasks : s.writeBack.tasks = s.tasks := by simp [State.writeBack]
@[simp] theorem writeBack_sl : s.writeBack.sl = s.sl := by simp [State.writeBack]

end

/-- A byte that holds no sample of the macroblock stays. -/
theorem writeBack_byteAt_other {s : State} {a : Nat}
    (h : ∀ c x y, c ≤ 2 → x < mbSide c → y < mbSide c → a ≠ s.mbSampleAddr c x y) :
    s.writeBack.byteAt a = s.byteAt a := by
  have hother : ∀ w ∈ s.mbWrites, w.1 ≠ a := by
    intro w hw
    obtain ⟨c, x, y, hc, hx, hy, rfl⟩ := mem_mbWrites.1 hw
    exact (h c x y hc hx hy).symm
  rw [State.byteAt, writeBack_mem, Mem.read_writeAll_other _ _ a hother, State.byteAt]

/-- The current frame is as wide as the picture and holds the row of the macroblock whole. -/
def State.mbFits (s : State) : Prop :=
  (s.frame s.cur).w = 16 * s.picWidth ∧ 16 * (s.mbY + 1) ≤ (s.frame s.cur).h

theorem mbX_lt_picWidth (s : State) : s.mbX < s.picWidth := Nat.mod_lt _ (Nat.succ_pos _)

/-- The samples of the macroblock are samples of the frame. -/
theorem State.mbFits.hasSample {s : State} (hfit : s.mbFits) {c x y : Nat} (hc : c ≤ 2) (hx : x < mbSide c)
    (hy : y < mbSide c) : (s.frame s.cur).HasSample c (mbSide c * s.mbX + x) (mbSide c * s.mbY + y) := by
  obtain ⟨hw, hh⟩ := hfit
  have hcol := mbX_lt_picWidth s
  by_cases hluma : c = 0
  · simp only [Frame.HasSample, mbSide, planeW, planeH, if_pos hluma] at hx hy ⊢
    omega
  · simp only [Frame.HasSample, mbSide, planeW, planeH, if_neg hluma] at hx hy ⊢
    omega

/-- The bytes of the macroblock's samples. -/
theorem writeBack_byteAt_sample {s : State} (hfit : s.mbFits) {c x y : Nat} (hc : c ≤ 2) (hx : x < mbSide c)
    (hy : y < mbSide c) : s.writeBack.byteAt (s.mbSampleAddr c x y) = s.mbByte c x y := by
  have hmem : (s.mbSampleAddr c x y, s.mbByte c x y) ∈ s.mbWrites := mem_mbWrites.2 ⟨c, x, y, hc, hx, hy, rfl⟩
  have hall : ∀ w ∈ s.mbWrites, w.1 = s.mbSampleAddr c x y → w.2 = s.mbByte c x y := by
    intro w hw haddr
    obtain ⟨c', x', y', hc', hx', hy', rfl⟩ := mem_mbWrites.1 hw
    obtain ⟨rfl, hcol, hrow⟩ := sampleAddr_inj (hfit.hasSample hc' hx' hy') (hfit.hasSample hc hx hy) haddr
    rw [Nat.add_left_cancel hcol, Nat.add_left_cancel hrow]
  rw [State.byteAt, writeBack_mem, Mem.read_writeAll_of_mem hmem hall, Option.getD_some]

theorem writeBack_mbInfoAt (s : State) (a : Nat) :
    s.writeBack.mbInfoAt a =
      if a = s.ds.currMbAddr ∧ a < s.au.mbInfo.length then s.finalInfo else s.mbInfoAt a := by
  rw [State.mbInfoAt, writeBack_au, List.getD_eq_getElem?_getD, List.getElem?_set]
  by_cases e : s.ds.currMbAddr = a
  · subst e
    by_cases l : s.ds.currMbAddr < s.au.mbInfo.length
    · simp [l]
    · simp [l, State.mbInfoAt]
  · simp [e, Ne.symm e, State.mbInfoAt]

/-- To change an entry that is there is to replace it. -/
theorem modify_eq_set_of_getElem? {α : Type} (f : α → α) {l : List α} {i : Nat} {d : α} (hd : l[i]? = some d) :
    l.modify i f = l.set i (f d) := by
  apply List.ext_getElem?
  intro j
  rw [List.getElem?_modify, List.getElem?_set]
  by_cases hij : i = j
  · have hlt : i < l.length := (List.getElem?_eq_some_iff.1 hd).1
    simp only [← hij, hd, if_pos hlt, if_true, Option.map_eq_map, Option.map_some]
  · simp only [if_neg hij, Option.map_eq_map, Option.map_id_fun', id_eq]

theorem usesList_iff (m : List BlockMotion) : usesList m = true ↔ ∃ b ∈ m, b.refIdx ≥ 0 := by
  simp [usesList]

theorem dbkNonZero_perBlock {cabac : Bool} {i : MbInfo} (h : i.transform8x8 = false ∨ cabac = true) :
    dbkNonZero cabac i = i.coeffLuma := by
  rcases h with h | h <;> simp [dbkNonZero, h]

/-- Under an 8x8 transform in CAVLC, a block's count is the sum of the four of its 8x8 block. -/
theorem dbkNonZero_summed {cabac : Bool} {i : MbInfo} (ht : i.transform8x8 = true) (hc : cabac = false) :
    (dbkNonZero cabac i).length = 16 ∧ ∀ k, k < 16 →
      (dbkNonZero cabac i)[k]? = some ((List.range 4).map fun j => i.coeffLuma.getD (4 * (k / 4) + j) 0).sum := by
  rw [dbkNonZero, if_pos ⟨ht, by rw [hc]; rfl⟩]
  refine ⟨by rw [List.length_map, List.length_range], fun k hk => ?_⟩
  rw [List.getElem?_map, List.getElem?_range hk, Option.map_some]

theorem writeBack_frame (s : State) (g : Nat) :
    s.writeBack.frame g =
      if g = s.cur ∧ g < s.fs.length then
        { s.frame g with motion := (s.frame g).motion.set s.ds.currMbAddr s.mbMotion }
      else s.frame g := by
  rw [State.frame, writeBack_fs]
  refine (frame_updFrame s s.cur g _).trans ?_
  by_cases hg : g = s.cur
  · rw [hg]
  · rw [if_neg fun h => hg h.1, if_neg fun h => hg h.1]

/-- Settles O44, by where the 384 writes go and what the records hold after them; that the frame's height is even is not needed. -/
theorem writeBackWritesOneMacroblock : Obligations.WriteBackWritesOneMacroblock := by
  intro s ts hdue
  let u := s.taken ts
  refine ⟨u.writeBack, step_due hdue, fun a hY hC => ?_, fun hw hh _ => ?_, fun hlt => ?_, fun a ha => ?_,
    fun g => ?_, fun d _ hd => ⟨dbkOf s.hdr.pps.cabac s.finalInfo, ?_, ?_⟩, writeBack_mb u, writeBack_ds u,
    writeBack_csr u, writeBack_tasks u, writeBack_sl u⟩
  · refine writeBack_byteAt_other (s := u) fun c x y hc hx hy => ?_
    obtain rfl | hchroma : c = 0 ∨ c = 1 ∨ c = 2 := by omega
    · exact hY x y hx hy
    · obtain rfl | rfl := hchroma
      · exact hC 1 x y (.inl rfl) hx hy
      · exact hC 2 x y (.inr rfl) hx hy
  · have hfit : u.mbFits := ⟨hw, hh⟩
    exact ⟨fun x y hx hy => writeBack_byteAt_sample hfit (c := 0) (by decide) hx hy,
      fun x y hx hy => writeBack_byteAt_sample hfit (c := 1) (by decide) hx hy,
      fun x y hx hy => writeBack_byteAt_sample hfit (c := 2) (by decide) hx hy⟩
  · exact (writeBack_mbInfoAt u _).trans (if_pos ⟨rfl, hlt⟩)
  · exact (writeBack_mbInfoAt u a).trans (if_neg fun h => ha h.1)
  · exact writeBack_frame u g
  · exact (writeBack_dbk u).trans (modify_eq_set_of_getElem? _ hd)
  · exact ⟨rfl, rfl, rfl, rfl, rfl, rfl, rfl, rfl, rfl, rfl, rfl, dbkNonZero_perBlock,
      fun ht hc => dbkNonZero_summed ht hc, usesList_iff _, usesList_iff _⟩

end Sys2Proof.Machine
end

section
/-! PROOFS. The encodings of 30_encoding.md: a code is read from its own bits alone, which values its space reserves, then the statements of that family. -/

namespace Sys2Proof

/-! ## Codes that say where they end -/

/-- A code that is read from its own bits alone: they lie within the bits at hand, and whatever follows does not change what is read. -/
def SelfDelimiting {α : Type} (dec : List Bool → CodeRes α) : Prop :=
  ∀ bs v n, dec bs = .ok v n → n ≤ bs.length ∧ ∀ rest, dec (bs ++ rest) = .ok v n

theorem CodeRes.map_eq_ok {α β : Type} {f : α → β} {r : CodeRes α} {w : β} {n : Nat} (h : r.map f = .ok w n) :
    ∃ v, r = .ok v n ∧ f v = w := by
  cases r with
  | ok v k =>
    obtain ⟨rfl, rfl⟩ := CodeRes.ok.inj h
    exact ⟨v, rfl, rfl⟩
  | error e k => cases h

/-- Two codes in a row are read when both are, and the bits consumed add up. -/
theorem CodeRes.thenRead_eq_ok {α β : Type} {r : CodeRes α} {k : α → Nat → CodeRes β} {w : β} {n : Nat}
    (h : r.thenRead k = .ok w n) : ∃ v i j, r = .ok v i ∧ k v i = .ok w j ∧ n = i + j := by
  cases r with
  | error e i => cases h
  | ok v i =>
    cases hk : k v i with
    | error e j => simp [CodeRes.thenRead, hk] at h
    | ok x j =>
      simp only [CodeRes.thenRead, hk] at h
      obtain ⟨rfl, rfl⟩ := CodeRes.ok.inj h
      exact ⟨v, i, j, rfl, hk, rfl⟩

theorem orReserved_eq_ok {f : Nat → Option Instr} {r : CodeRes Nat} {i : Instr} {n : Nat} (h : orReserved f r = .ok i n) :
    ∃ v, r = .ok v n ∧ f v = some i := by
  cases r with
  | error e k => cases h
  | ok v k =>
    cases hv : f v with
    | none => simp [orReserved, hv] at h
    | some j =>
      simp only [orReserved, hv] at h
      obtain ⟨rfl, rfl⟩ := CodeRes.ok.inj h
      exact ⟨v, rfl, hv⟩

/-- The scan of a codeword needs, after `z` zeros, no more than its own bits. -/
theorem ueScan_append (bs : List Bool) : ∀ z v n, ueScan z bs = .ok v n →
    n ≤ z + bs.length ∧ ∀ rest, ueScan z (bs ++ rest) = .ok v n := by
  induction bs with
  | nil => intro z v n h; cases h
  | cons b bs ih =>
    intro z v n h
    cases b with
    | true =>
      by_cases hlen : bs.length < z
      · simp [ueScan, hlen] at h
      · simp only [ueScan, if_neg hlen] at h
        obtain ⟨rfl, rfl⟩ := CodeRes.ok.inj h
        refine ⟨by simp only [List.length_cons]; omega, fun rest => ?_⟩
        have hlen' : ¬ (bs ++ rest).length < z := by rw [List.length_append]; omega
        rw [List.cons_append, ueScan, if_neg hlen', List.take_append_of_le_length (by omega)]
    | false =>
      by_cases hz : z ≥ 31
      · simp [ueScan, hz] at h
      · simp only [ueScan, if_neg hz] at h
        obtain ⟨hn, hrest⟩ := ih _ _ _ h
        refine ⟨by simp only [List.length_cons]; omega, fun rest => ?_⟩
        rw [List.cons_append, ueScan, if_neg hz, hrest rest]

namespace SelfDelimiting

variable {α β : Type}

theorem ue : SelfDelimiting ueDecode := fun bs v n h => by
  simpa [ueDecode] using ueScan_append bs 0 v n h

theorem fixed (n : Nat) : SelfDelimiting (fixedDecode n) := fun bs v k h => by
  by_cases hlen : bs.length < n
  · simp [fixedDecode, hlen] at h
  · simp only [fixedDecode, if_neg hlen] at h
    obtain ⟨rfl, rfl⟩ := CodeRes.ok.inj h
    refine ⟨by omega, fun rest => ?_⟩
    have hlen' : ¬ (bs ++ rest).length < n := by rw [List.length_append]; omega
    rw [fixedDecode, if_neg hlen', List.take_append_of_le_length (by omega)]

/-- An operation without a code. -/
theorem const (v : α) : SelfDelimiting fun _ => .ok v 0 := fun bs w n h => by
  obtain ⟨rfl, rfl⟩ := CodeRes.ok.inj h
  exact ⟨Nat.zero_le _, fun _ => rfl⟩

theorem error (e : DecodeError) (n : Nat) : SelfDelimiting fun _ => (.error e n : CodeRes α) := nofun

theorem map {dec : List Bool → CodeRes α} (hd : SelfDelimiting dec) (f : α → β) : SelfDelimiting fun bs => (dec bs).map f :=
  fun bs w n h => by
    obtain ⟨v, hv, rfl⟩ := CodeRes.map_eq_ok h
    obtain ⟨hn, hrest⟩ := hd bs v n hv
    exact ⟨hn, fun rest => by simp only [hrest rest, CodeRes.map]⟩

theorem orReserved {dec : List Bool → CodeRes Nat} (hd : SelfDelimiting dec) (f : Nat → Option Instr) :
    SelfDelimiting fun bs => Sys2Proof.orReserved f (dec bs) := fun bs i n h => by
  obtain ⟨v, hv, hf⟩ := orReserved_eq_ok h
  obtain ⟨hn, hrest⟩ := hd bs v n hv
  exact ⟨hn, fun rest => by simp only [hrest rest, Sys2Proof.orReserved, hf]⟩

/-- A code and then one that it selects. -/
theorem thenRead {dec : List Bool → CodeRes α} {k : α → List Bool → CodeRes β} (hd : SelfDelimiting dec)
    (hk : ∀ v, SelfDelimiting (k v)) : SelfDelimiting fun bs => (dec bs).thenRead fun v n => k v (bs.drop n) :=
  fun bs w n h => by
    obtain ⟨v, i, j, hv, hw, rfl⟩ := CodeRes.thenRead_eq_ok h
    obtain ⟨hi, hrest⟩ := hd bs v i hv
    obtain ⟨hj, hrest'⟩ := hk v _ w j hw
    rw [List.length_drop] at hj
    refine ⟨by omega, fun rest => ?_⟩
    simp only [hrest rest, CodeRes.thenRead, List.drop_append_of_le_length hi, hrest' rest]

end SelfDelimiting

/-! ## The codes with operands (R153) -/

/-- What follows the code of a modification command. -/
def rplmOperands (idc : Nat) (bs : List Bool) : CodeRes Instr :=
  match idc with
  | 0 => (ueDecode bs).map .rplmSub
  | 1 => (ueDecode bs).map .rplmAdd
  | 2 => (ueDecode bs).map .rplmLong
  | 3 => .ok .rplmEnd 0
  | _ => .error .reserved 0

theorem rplmDecode_eq (bs : List Bool) :
    rplmDecode bs = (ueDecode bs).thenRead fun idc n => rplmOperands idc (bs.drop n) := rfl

/-- What follows the code of a marking operation. -/
def mmcoOperands (op : Nat) (bs : List Bool) : CodeRes Instr :=
  match op with
  | 0 => .ok .mmcoEnd 0
  | 1 => (ueDecode bs).map .mmcoShortUnused
  | 2 => (ueDecode bs).map .mmcoLongUnused
  | 3 => (ueDecode bs).thenRead fun d m => (ueDecode (bs.drop m)).map (.mmcoShortToLong d)
  | 4 => (ueDecode bs).map .mmcoMaxLongIdx
  | 5 => .ok .mmcoAllUnused 0
  | 6 => (ueDecode bs).map .mmcoCurToLong
  | _ => .error .reserved 0

theorem mmcoDecode_eq (bs : List Bool) :
    mmcoDecode bs = (ueDecode bs).thenRead fun op n => mmcoOperands op (bs.drop n) :=
  congrArg (ueDecode bs).thenRead <| funext fun op => funext fun n => match op with
    | 0 | 1 | 2 | 4 | 5 | 6 | _ + 7 => rfl
    | 3 => by simp only [mmcoOperands, List.drop_drop]

namespace SelfDelimiting

theorem rplm : SelfDelimiting rplmDecode :=
  thenRead (k := rplmOperands) ue fun idc => match idc with
    | 0 | 1 | 2 => ue.map _
    | 3 => const _
    | _ + 4 => error _ _

theorem mmco : SelfDelimiting mmcoDecode := by
  rw [funext mmcoDecode_eq]
  exact thenRead (k := mmcoOperands) ue fun op => match op with
    | 0 | 5 => const _
    | 1 | 2 | 4 | 6 => ue.map _
    | 3 => thenRead ue fun _ => ue.map _
    | _ + 7 => error _ _

/-- Every space's codes are self-delimiting. -/
theorem space : ∀ sp : Space, SelfDelimiting (decode sp)
  | .cmd | .nalHdr | .i4Mode | .i8Mode | .i16Mode | .qpel | .cpel | .xform => (fixed _).orReserved _
  | .sliceType | .mbI | .mbP | .mbB | .subP | .subB | .chromaMode | .sgMap | .pocType => ue.orReserved _
  | .skipP | .skipB | .desc _ => const _
  | .rplm => rplm
  | .mmco => mmco

end SelfDelimiting

end Sys2Proof

namespace Sys2Proof.Laws

/-! ## Every operation is read back from its bits -/

theorem Encoding.all : ∀ i : Instr, Encoding.Statement i
  | .srst => Encoding.srst
  | .nal => Encoding.nal
  | .auEnd => Encoding.auEnd
  | .release => Encoding.release
  | .descU n => Encoding.descU n
  | .descF n => Encoding.descF n
  | .descUv n => Encoding.descUv n
  | .descUe => Encoding.descUe
  | .descSe => Encoding.descSe
  | .descTe cMax => Encoding.descTe cMax
  | .descMe intra => Encoding.descMe intra
  | .descCe e => Encoding.descCe e
  | .descAe e => Encoding.descAe e
  | .nalType0 refIdc => Encoding.nalType0 refIdc
  | .nalSlice refIdc => Encoding.nalSlice refIdc
  | .nalType2 refIdc => Encoding.nalType2 refIdc
  | .nalType3 refIdc => Encoding.nalType3 refIdc
  | .nalType4 refIdc => Encoding.nalType4 refIdc
  | .nalIdr refIdc => Encoding.nalIdr refIdc
  | .nalType6 refIdc => Encoding.nalType6 refIdc
  | .nalSps refIdc => Encoding.nalSps refIdc
  | .nalPps refIdc => Encoding.nalPps refIdc
  | .nalType9 refIdc => Encoding.nalType9 refIdc
  | .nalType10 refIdc => Encoding.nalType10 refIdc
  | .nalType11 refIdc => Encoding.nalType11 refIdc
  | .nalType12 refIdc => Encoding.nalType12 refIdc
  | .nalType13 refIdc => Encoding.nalType13 refIdc
  | .nalType14 refIdc => Encoding.nalType14 refIdc
  | .nalType15 refIdc => Encoding.nalType15 refIdc
  | .nalType16 refIdc => Encoding.nalType16 refIdc
  | .nalType17 refIdc => Encoding.nalType17 refIdc
  | .nalType18 refIdc => Encoding.nalType18 refIdc
  | .nalType19 refIdc => Encoding.nalType19 refIdc
  | .nalType20 refIdc => Encoding.nalType20 refIdc
  | .nalType21 refIdc => Encoding.nalType21 refIdc
  | .nalType22 refIdc => Encoding.nalType22 refIdc
  | .nalType23 refIdc => Encoding.nalType23 refIdc
  | .nalType24 refIdc => Encoding.nalType24 refIdc
  | .nalType25 refIdc => Encoding.nalType25 refIdc
  | .nalType26 refIdc => Encoding.nalType26 refIdc
  | .nalType27 refIdc => Encoding.nalType27 refIdc
  | .nalType28 refIdc => Encoding.nalType28 refIdc
  | .nalType29 refIdc => Encoding.nalType29 refIdc
  | .nalType30 refIdc => Encoding.nalType30 refIdc
  | .nalType31 refIdc => Encoding.nalType31 refIdc
  | .nalForbidden rest => Encoding.nalForbidden rest
  | .rplmSub v => Encoding.rplmSub v
  | .rplmAdd v => Encoding.rplmAdd v
  | .rplmLong v => Encoding.rplmLong v
  | .rplmEnd => Encoding.rplmEnd
  | .mmcoEnd => Encoding.mmcoEnd
  | .mmcoShortUnused diff => Encoding.mmcoShortUnused diff
  | .mmcoLongUnused num => Encoding.mmcoLongUnused num
  | .mmcoShortToLong diff idx => Encoding.mmcoShortToLong diff idx
  | .mmcoMaxLongIdx plus1 => Encoding.mmcoMaxLongIdx plus1
  | .mmcoAllUnused => Encoding.mmcoAllUnused
  | .mmcoCurToLong idx => Encoding.mmcoCurToLong idx
  | .sliceP => Encoding.sliceP
  | .sliceB => Encoding.sliceB
  | .sliceI => Encoding.sliceI
  | .sliceSp => Encoding.sliceSp
  | .sliceSi => Encoding.sliceSi
  | .slicePAll => Encoding.slicePAll
  | .sliceBAll => Encoding.sliceBAll
  | .sliceIAll => Encoding.sliceIAll
  | .sliceSpAll => Encoding.sliceSpAll
  | .sliceSiAll => Encoding.sliceSiAll
  | .iNxN => Encoding.iNxN
  | .i_16x16_0_0_0 => Encoding.i_16x16_0_0_0
  | .i_16x16_1_0_0 => Encoding.i_16x16_1_0_0
  | .i_16x16_2_0_0 => Encoding.i_16x16_2_0_0
  | .i_16x16_3_0_0 => Encoding.i_16x16_3_0_0
  | .i_16x16_0_1_0 => Encoding.i_16x16_0_1_0
  | .i_16x16_1_1_0 => Encoding.i_16x16_1_1_0
  | .i_16x16_2_1_0 => Encoding.i_16x16_2_1_0
  | .i_16x16_3_1_0 => Encoding.i_16x16_3_1_0
  | .i_16x16_0_2_0 => Encoding.i_16x16_0_2_0
  | .i_16x16_1_2_0 => Encoding.i_16x16_1_2_0
  | .i_16x16_2_2_0 => Encoding.i_16x16_2_2_0
  | .i_16x16_3_2_0 => Encoding.i_16x16_3_2_0
  | .i_16x16_0_0_1 => Encoding.i_16x16_0_0_1
  | .i_16x16_1_0_1 => Encoding.i_16x16_1_0_1
  | .i_16x16_2_0_1 => Encoding.i_16x16_2_0_1
  | .i_16x16_3_0_1 => Encoding.i_16x16_3_0_1
  | .i_16x16_0_1_1 => Encoding.i_16x16_0_1_1
  | .i_16x16_1_1_1 => Encoding.i_16x16_1_1_1
  | .i_16x16_2_1_1 => Encoding.i_16x16_2_1_1
  | .i_16x16_3_1_1 => Encoding.i_16x16_3_1_1
  | .i_16x16_0_2_1 => Encoding.i_16x16_0_2_1
  | .i_16x16_1_2_1 => Encoding.i_16x16_1_2_1
  | .i_16x16_2_2_1 => Encoding.i_16x16_2_2_1
  | .i_16x16_3_2_1 => Encoding.i_16x16_3_2_1
  | .iPcm => Encoding.iPcm
  | .pL0_16x16 => Encoding.pL0_16x16
  | .pL0L0_16x8 => Encoding.pL0L0_16x8
  | .pL0L0_8x16 => Encoding.pL0L0_8x16
  | .p8x8 => Encoding.p8x8
  | .p8x8ref0 => Encoding.p8x8ref0
  | .pINxN => Encoding.pINxN
  | .pI_16x16_0_0_0 => Encoding.pI_16x16_0_0_0
  | .pI_16x16_1_0_0 => Encoding.pI_16x16_1_0_0
  | .pI_16x16_2_0_0 => Encoding.pI_16x16_2_0_0
  | .pI_16x16_3_0_0 => Encoding.pI_16x16_3_0_0
  | .pI_16x16_0_1_0 => Encoding.pI_16x16_0_1_0
  | .pI_16x16_1_1_0 => Encoding.pI_16x16_1_1_0
  | .pI_16x16_2_1_0 => Encoding.pI_16x16_2_1_0
  | .pI_16x16_3_1_0 => Encoding.pI_16x16_3_1_0
  | .pI_16x16_0_2_0 => Encoding.pI_16x16_0_2_0
  | .pI_16x16_1_2_0 => Encoding.pI_16x16_1_2_0
  | .pI_16x16_2_2_0 => Encoding.pI_16x16_2_2_0
  | .pI_16x16_3_2_0 => Encoding.pI_16x16_3_2_0
  | .pI_16x16_0_0_1 => Encoding.pI_16x16_0_0_1
  | .pI_16x16_1_0_1 => Encoding.pI_16x16_1_0_1
  | .pI_16x16_2_0_1 => Encoding.pI_16x16_2_0_1
  | .pI_16x16_3_0_1 => Encoding.pI_16x16_3_0_1
  | .pI_16x16_0_1_1 => Encoding.pI_16x16_0_1_1
  | .pI_16x16_1_1_1 => Encoding.pI_16x16_1_1_1
  | .pI_16x16_2_1_1 => Encoding.pI_16x16_2_1_1
  | .pI_16x16_3_1_1 => Encoding.pI_16x16_3_1_1
  | .pI_16x16_0_2_1 => Encoding.pI_16x16_0_2_1
  | .pI_16x16_1_2_1 => Encoding.pI_16x16_1_2_1
  | .pI_16x16_2_2_1 => Encoding.pI_16x16_2_2_1
  | .pI_16x16_3_2_1 => Encoding.pI_16x16_3_2_1
  | .pIPcm => Encoding.pIPcm
  | .pSkip => Encoding.pSkip
  | .bDirect16x16 => Encoding.bDirect16x16
  | .bL0_16x16 => Encoding.bL0_16x16
  | .bL1_16x16 => Encoding.bL1_16x16
  | .bBi_16x16 => Encoding.bBi_16x16
  | .bL0L0_16x8 => Encoding.bL0L0_16x8
  | .bL0L0_8x16 => Encoding.bL0L0_8x16
  | .bL1L1_16x8 => Encoding.bL1L1_16x8
  | .bL1L1_8x16 => Encoding.bL1L1_8x16
  | .bL0L1_16x8 => Encoding.bL0L1_16x8
  | .bL0L1_8x16 => Encoding.bL0L1_8x16
  | .bL1L0_16x8 => Encoding.bL1L0_16x8
  | .bL1L0_8x16 => Encoding.bL1L0_8x16
  | .bL0Bi_16x8 => Encoding.bL0Bi_16x8
  | .bL0Bi_8x16 => Encoding.bL0Bi_8x16
  | .bL1Bi_16x8 => Encoding.bL1Bi_16x8
  | .bL1Bi_8x16 => Encoding.bL1Bi_8x16
  | .bBiL0_16x8 => Encoding.bBiL0_16x8
  | .bBiL0_8x16 => Encoding.bBiL0_8x16
  | .bBiL1_16x8 => Encoding.bBiL1_16x8
  | .bBiL1_8x16 => Encoding.bBiL1_8x16
  | .bBiBi_16x8 => Encoding.bBiBi_16x8
  | .bBiBi_8x16 => Encoding.bBiBi_8x16
  | .b8x8 => Encoding.b8x8
  | .bINxN => Encoding.bINxN
  | .bI_16x16_0_0_0 => Encoding.bI_16x16_0_0_0
  | .bI_16x16_1_0_0 => Encoding.bI_16x16_1_0_0
  | .bI_16x16_2_0_0 => Encoding.bI_16x16_2_0_0
  | .bI_16x16_3_0_0 => Encoding.bI_16x16_3_0_0
  | .bI_16x16_0_1_0 => Encoding.bI_16x16_0_1_0
  | .bI_16x16_1_1_0 => Encoding.bI_16x16_1_1_0
  | .bI_16x16_2_1_0 => Encoding.bI_16x16_2_1_0
  | .bI_16x16_3_1_0 => Encoding.bI_16x16_3_1_0
  | .bI_16x16_0_2_0 => Encoding.bI_16x16_0_2_0
  | .bI_16x16_1_2_0 => Encoding.bI_16x16_1_2_0
  | .bI_16x16_2_2_0 => Encoding.bI_16x16_2_2_0
  | .bI_16x16_3_2_0 => Encoding.bI_16x16_3_2_0
  | .bI_16x16_0_0_1 => Encoding.bI_16x16_0_0_1
  | .bI_16x16_1_0_1 => Encoding.bI_16x16_1_0_1
  | .bI_16x16_2_0_1 => Encoding.bI_16x16_2_0_1
  | .bI_16x16_3_0_1 => Encoding.bI_16x16_3_0_1
  | .bI_16x16_0_1_1 => Encoding.bI_16x16_0_1_1
  | .bI_16x16_1_1_1 => Encoding.bI_16x16_1_1_1
  | .bI_16x16_2_1_1 => Encoding.bI_16x16_2_1_1
  | .bI_16x16_3_1_1 => Encoding.bI_16x16_3_1_1
  | .bI_16x16_0_2_1 => Encoding.bI_16x16_0_2_1
  | .bI_16x16_1_2_1 => Encoding.bI_16x16_1_2_1
  | .bI_16x16_2_2_1 => Encoding.bI_16x16_2_2_1
  | .bI_16x16_3_2_1 => Encoding.bI_16x16_3_2_1
  | .bIPcm => Encoding.bIPcm
  | .bSkip => Encoding.bSkip
  | .subPL0_8x8 => Encoding.subPL0_8x8
  | .subPL0_8x4 => Encoding.subPL0_8x4
  | .subPL0_4x8 => Encoding.subPL0_4x8
  | .subPL0_4x4 => Encoding.subPL0_4x4
  | .subBDirect_8x8 => Encoding.subBDirect_8x8
  | .subBL0_8x8 => Encoding.subBL0_8x8
  | .subBL1_8x8 => Encoding.subBL1_8x8
  | .subBBi_8x8 => Encoding.subBBi_8x8
  | .subBL0_8x4 => Encoding.subBL0_8x4
  | .subBL0_4x8 => Encoding.subBL0_4x8
  | .subBL1_8x4 => Encoding.subBL1_8x4
  | .subBL1_4x8 => Encoding.subBL1_4x8
  | .subBBi_8x4 => Encoding.subBBi_8x4
  | .subBBi_4x8 => Encoding.subBBi_4x8
  | .subBL0_4x4 => Encoding.subBL0_4x4
  | .subBL1_4x4 => Encoding.subBL1_4x4
  | .subBBi_4x4 => Encoding.subBBi_4x4
  | .intra4x4Vertical => Encoding.intra4x4Vertical
  | .intra4x4Horizontal => Encoding.intra4x4Horizontal
  | .intra4x4Dc => Encoding.intra4x4Dc
  | .intra4x4DiagDownLeft => Encoding.intra4x4DiagDownLeft
  | .intra4x4DiagDownRight => Encoding.intra4x4DiagDownRight
  | .intra4x4VerticalRight => Encoding.intra4x4VerticalRight
  | .intra4x4HorizontalDown => Encoding.intra4x4HorizontalDown
  | .intra4x4VerticalLeft => Encoding.intra4x4VerticalLeft
  | .intra4x4HorizontalUp => Encoding.intra4x4HorizontalUp
  | .intra8x8Vertical => Encoding.intra8x8Vertical
  | .intra8x8Horizontal => Encoding.intra8x8Horizontal
  | .intra8x8Dc => Encoding.intra8x8Dc
  | .intra8x8DiagDownLeft => Encoding.intra8x8DiagDownLeft
  | .intra8x8DiagDownRight => Encoding.intra8x8DiagDownRight
  | .intra8x8VerticalRight => Encoding.intra8x8VerticalRight
  | .intra8x8HorizontalDown => Encoding.intra8x8HorizontalDown
  | .intra8x8VerticalLeft => Encoding.intra8x8VerticalLeft
  | .intra8x8HorizontalUp => Encoding.intra8x8HorizontalUp
  | .intra16x16Vertical => Encoding.intra16x16Vertical
  | .intra16x16Horizontal => Encoding.intra16x16Horizontal
  | .intra16x16Dc => Encoding.intra16x16Dc
  | .intra16x16Plane => Encoding.intra16x16Plane
  | .chromaDc => Encoding.chromaDc
  | .chromaHorizontal => Encoding.chromaHorizontal
  | .chromaVertical => Encoding.chromaVertical
  | .chromaPlane => Encoding.chromaPlane
  | .qpel00G => Encoding.qpel00G
  | .qpel01d => Encoding.qpel01d
  | .qpel02h => Encoding.qpel02h
  | .qpel03n => Encoding.qpel03n
  | .qpel10a => Encoding.qpel10a
  | .qpel11e => Encoding.qpel11e
  | .qpel12i => Encoding.qpel12i
  | .qpel13p => Encoding.qpel13p
  | .qpel20b => Encoding.qpel20b
  | .qpel21f => Encoding.qpel21f
  | .qpel22j => Encoding.qpel22j
  | .qpel23q => Encoding.qpel23q
  | .qpel30c => Encoding.qpel30c
  | .qpel31g => Encoding.qpel31g
  | .qpel32k => Encoding.qpel32k
  | .qpel33r => Encoding.qpel33r
  | .cpel00 => Encoding.cpel00
  | .cpel01 => Encoding.cpel01
  | .cpel02 => Encoding.cpel02
  | .cpel03 => Encoding.cpel03
  | .cpel04 => Encoding.cpel04
  | .cpel05 => Encoding.cpel05
  | .cpel06 => Encoding.cpel06
  | .cpel07 => Encoding.cpel07
  | .cpel10 => Encoding.cpel10
  | .cpel11 => Encoding.cpel11
  | .cpel12 => Encoding.cpel12
  | .cpel13 => Encoding.cpel13
  | .cpel14 => Encoding.cpel14
  | .cpel15 => Encoding.cpel15
  | .cpel16 => Encoding.cpel16
  | .cpel17 => Encoding.cpel17
  | .cpel20 => Encoding.cpel20
  | .cpel21 => Encoding.cpel21
  | .cpel22 => Encoding.cpel22
  | .cpel23 => Encoding.cpel23
  | .cpel24 => Encoding.cpel24
  | .cpel25 => Encoding.cpel25
  | .cpel26 => Encoding.cpel26
  | .cpel27 => Encoding.cpel27
  | .cpel30 => Encoding.cpel30
  | .cpel31 => Encoding.cpel31
  | .cpel32 => Encoding.cpel32
  | .cpel33 => Encoding.cpel33
  | .cpel34 => Encoding.cpel34
  | .cpel35 => Encoding.cpel35
  | .cpel36 => Encoding.cpel36
  | .cpel37 => Encoding.cpel37
  | .cpel40 => Encoding.cpel40
  | .cpel41 => Encoding.cpel41
  | .cpel42 => Encoding.cpel42
  | .cpel43 => Encoding.cpel43
  | .cpel44 => Encoding.cpel44
  | .cpel45 => Encoding.cpel45
  | .cpel46 => Encoding.cpel46
  | .cpel47 => Encoding.cpel47
  | .cpel50 => Encoding.cpel50
  | .cpel51 => Encoding.cpel51
  | .cpel52 => Encoding.cpel52
  | .cpel53 => Encoding.cpel53
  | .cpel54 => Encoding.cpel54
  | .cpel55 => Encoding.cpel55
  | .cpel56 => Encoding.cpel56
  | .cpel57 => Encoding.cpel57
  | .cpel60 => Encoding.cpel60
  | .cpel61 => Encoding.cpel61
  | .cpel62 => Encoding.cpel62
  | .cpel63 => Encoding.cpel63
  | .cpel64 => Encoding.cpel64
  | .cpel65 => Encoding.cpel65
  | .cpel66 => Encoding.cpel66
  | .cpel67 => Encoding.cpel67
  | .cpel70 => Encoding.cpel70
  | .cpel71 => Encoding.cpel71
  | .cpel72 => Encoding.cpel72
  | .cpel73 => Encoding.cpel73
  | .cpel74 => Encoding.cpel74
  | .cpel75 => Encoding.cpel75
  | .cpel76 => Encoding.cpel76
  | .cpel77 => Encoding.cpel77
  | .idct4x4 => Encoding.idct4x4
  | .dequantBranches => Encoding.dequantBranches
  | .lumaDc4x4 => Encoding.lumaDc4x4
  | .chromaDc2x2 => Encoding.chromaDc2x2
  | .chromaAc => Encoding.chromaAc
  | .idct8x8 => Encoding.idct8x8
  | .reconClip => Encoding.reconClip
  | .zeroBlock => Encoding.zeroBlock
  | .dcOnly4x4 => Encoding.dcOnly4x4
  | .sgmap0Interleaved => Encoding.sgmap0Interleaved
  | .sgmap1Dispersed => Encoding.sgmap1Dispersed
  | .sgmap2Foreground => Encoding.sgmap2Foreground
  | .sgmap3BoxOut => Encoding.sgmap3BoxOut
  | .sgmap4Raster => Encoding.sgmap4Raster
  | .sgmap5Wipe => Encoding.sgmap5Wipe
  | .sgmap6Explicit => Encoding.sgmap6Explicit
  | .pocType0 => Encoding.pocType0
  | .pocType1 => Encoding.pocType1
  | .pocType2 => Encoding.pocType2

end Sys2Proof.Laws

namespace Sys2Proof

/-- Settles O2: each operation is read back from its own bits, and no code is changed by what follows it. -/
theorem decodeInvertsEncode : Obligations.DecodeInvertsEncode := fun i rest hwf =>
  (SelfDelimiting.space (spaceOf i) _ _ _ (Laws.Encoding.all i hwf)).2 rest

/-! ## Reserved values (R147-R149, R152, R153, R155) -/

/-- A table that has every value up to `m` and none above it. -/
theorem eq_none_iff_gt {f : Nat → Option Instr} (m : Nat) (hle : ∀ v < m + 1, f v ≠ none) (hgt : ∀ v, f (v + (m + 1)) = none)
    (v : Nat) : f v = none ↔ v > m := by
  constructor
  · intro hv
    exact Nat.lt_of_not_le fun hm => hle v (Nat.lt_succ_of_le hm) hv
  · intro hm
    have := hgt (v - (m + 1))
    rwa [Nat.sub_add_cancel hm] at this

/-- A codeword is refused as reserved exactly if its value is not in the table. -/
theorem orReserved_ue_reserved {f : Nat → Option Instr} {v : Nat} (hv : v < 2 ^ 32 - 1) (rest : List Bool) :
    orReserved f (ueDecode (ueEncode v ++ rest)) = .error .reserved (ueEncode v).length ↔ f v = none := by
  rw [ueDecode_ueEncode v rest hv]
  cases h : f v <;> simp [orReserved, h]

/-- An answer that is not a refusal as reserved. -/
def CodeRes.NotReserved {α : Type} (r : CodeRes α) : Prop := ∀ n, r ≠ .error .reserved n

namespace CodeRes.NotReserved

variable {α β : Type}

theorem ok (v : α) (n : Nat) : (CodeRes.ok v n).NotReserved := nofun

theorem map {r : CodeRes α} (h : r.NotReserved) (f : α → β) : (r.map f).NotReserved := by
  cases r with
  | ok v n => exact ok _ _
  | error e n =>
    intro k hk
    obtain ⟨rfl, rfl⟩ := CodeRes.error.inj hk
    exact h n rfl

theorem thenRead {r : CodeRes α} {k : α → Nat → CodeRes β} (h : r.NotReserved) (hk : ∀ v n, (k v n).NotReserved) :
    (r.thenRead k).NotReserved := by
  cases r with
  | error e n =>
    intro m hm
    obtain ⟨rfl, rfl⟩ := CodeRes.error.inj hm
    exact h n rfl
  | ok v n =>
    intro j hj
    cases hr : k v n with
    | ok w m => simp [CodeRes.thenRead, hr] at hj
    | error e m =>
      simp only [CodeRes.thenRead, hr] at hj
      obtain ⟨rfl, -⟩ := CodeRes.error.inj hj
      exact hk v n m hr

/-- No value is reserved in `ue(v)` itself. -/
theorem ueScan (bs : List Bool) : ∀ z, (ueScan z bs).NotReserved := by
  induction bs with
  | nil => exact fun z => nofun
  | cons b bs ih =>
    intro z
    cases b <;> unfold Sys2Proof.ueScan <;> split
    · nofun
    · exact ih _
    · nofun
    · exact ok _ _

theorem ue (bs : List Bool) : (ueDecode bs).NotReserved := ueScan bs 0

end CodeRes.NotReserved

open CodeRes.NotReserved in
theorem rplmOperands_reserved (v : Nat) (bs : List Bool) : rplmOperands v bs = .error .reserved 0 ↔ v > 3 :=
  match v with
  | 0 | 1 | 2 => iff_of_false ((ue bs).map _ 0) (by decide)
  | 3 => iff_of_false nofun (by decide)
  | _ + 4 => iff_of_true rfl (by omega)

open CodeRes.NotReserved in
theorem mmcoOperands_reserved (v : Nat) (bs : List Bool) : mmcoOperands v bs = .error .reserved 0 ↔ v > 6 :=
  match v with
  | 0 | 5 => iff_of_false nofun (by decide)
  | 1 | 2 | 4 | 6 => iff_of_false ((ue bs).map _ 0) (by decide)
  | 3 => iff_of_false ((ue bs).thenRead (fun _ _ => (ue _).map _) 0) (by decide)
  | _ + 7 => iff_of_true rfl (by omega)

/-- A codeword with operands is refused as reserved exactly if what follows is refused before its first bit. -/
theorem thenRead_ue_reserved {k : Nat → List Bool → CodeRes Instr} {v : Nat} (hv : v < 2 ^ 32 - 1) (rest : List Bool) :
    ((ueDecode (ueEncode v ++ rest)).thenRead fun u n => k u ((ueEncode v ++ rest).drop n))
      = .error .reserved (ueEncode v).length ↔ k v rest = .error .reserved 0 := by
  rw [ueDecode_ueEncode v rest hv]
  simp only [CodeRes.thenRead, List.drop_left]
  cases k v rest <;> simp

/-- After `k` zeros the scan has counted them. -/
theorem ueScan_zeros (k : Nat) : ∀ z r, z + k ≤ 31 → ueScan z (List.replicate k false ++ r) = ueScan (z + k) r := by
  induction k with
  | zero => intro z r _; rfl
  | succ k ih =>
    intro z r h
    have hz : ¬ z ≥ 31 := by omega
    rw [List.replicate_succ, List.cons_append, ueScan, if_neg hz, ih (z + 1) r (by omega)]
    congr 1
    omega

/-- More than 31 zeros are no codeword (R155). -/
theorem ueDecode_zeros (rest : List Bool) : ueDecode (List.replicate 32 false ++ rest) = .error .malformed 32 := by
  rw [List.replicate_succ', List.append_assoc]
  exact ueScan_zeros 31 0 _ (by decide)

/-- A space of codewords answers what is wrong with the codeword. -/
theorem decode_of_ueDecode_error {sp : Space} {bs : List Bool} {e : DecodeError} {n : Nat}
    (hsp : sp ∈ [Space.sliceType, .mbI, .mbP, .mbB, .subP, .subB, .chromaMode, .sgMap, .pocType, .rplm, .mmco])
    (h : ueDecode bs = .error e n) : decode sp bs = .error e n := by
  simp only [List.mem_cons, List.not_mem_nil, or_false] at hsp
  rcases hsp with rfl | rfl | rfl | rfl | rfl | rfl | rfl | rfl | rfl | rfl | rfl
  all_goals simp only [decode, rplmDecode, mmcoDecode, h, orReserved, CodeRes.thenRead]

/-- Settles O3: each space's table says which values it has, and a modification or marking code reserves what has no operands. -/
theorem reservedCodesRefused : Obligations.ReservedCodesRefused := by
  refine ⟨fun v rest hv => ?_, fun sp rest hsp => decode_of_ueDecode_error hsp (ueDecode_zeros rest)⟩
  have table {f : Nat → Option Instr} (m : Nat) (hle : ∀ v < m + 1, f v ≠ none) (hgt : ∀ v, f (v + (m + 1)) = none) :
      orReserved f (ueDecode (ueEncode v ++ rest)) = .error .reserved (ueEncode v).length ↔ v > m :=
    (orReserved_ue_reserved hv rest).trans (eq_none_iff_gt m hle hgt v)
  refine ⟨table 9 ?_ fun _ => rfl, table 25 ?_ fun _ => rfl, table 30 ?_ fun _ => rfl, table 48 ?_ fun _ => rfl,
    table 3 ?_ fun _ => rfl, table 12 ?_ fun _ => rfl, table 3 ?_ fun _ => rfl, table 6 ?_ fun _ => rfl,
    table 2 ?_ fun _ => rfl, ?_, ?_⟩
  case refine_10 => exact (thenRead_ue_reserved (k := rplmOperands) hv rest).trans (rplmOperands_reserved v rest)
  case refine_11 =>
    change mmcoDecode _ = _ ↔ _
    rw [mmcoDecode_eq]
    exact (thenRead_ue_reserved hv rest).trans (mmcoOperands_reserved v rest)
  all_goals decide

end Sys2Proof
end

section
/-! PROOFS. The elements coded with Exp-Golomb codes (40_bitreader_nal.md R215-R217): what the bit reader shows at the cursor, each descriptor's reader, then the operations and the statement. -/

namespace Sys2Proof.Machine

/-! ## The bits at the cursor -/

theorem window_length (b : Br) (n : Nat) : (b.window n).length = min n (8 * b.rbsp.length - b.cursor) := by
  simp [Br.window]

/-- The bits that the reader begins with lie within the RBSP. -/
theorem Br.startsWith.fits {b : Br} {bs : List Bool} (h : b.startsWith bs) : bs.length ≤ 8 * b.rbsp.length - b.cursor := by
  have hlen := window_length b bs.length
  rw [h] at hlen
  omega

/-- A wider window shows the same bits first. -/
theorem Br.startsWith.window {b : Br} {bs : List Bool} {n : Nat} (h : b.startsWith bs) (hn : bs.length ≤ n) :
    ∃ rest, b.window n = bs ++ rest := by
  have hfit := h.fits
  obtain ⟨m, hm⟩ : ∃ m, min n (8 * b.rbsp.length - b.cursor) = bs.length + m := Nat.exists_eq_add_of_le (by omega)
  have hbs : (List.range bs.length).map (fun j => b.bit (b.cursor + j)) = bs := by
    have h' := h
    rwa [Br.startsWith, Br.window, Nat.min_eq_left hfit] at h'
  rw [Br.window, hm, List.range_add, List.map_append, hbs]
  exact ⟨_, rfl⟩

/-- A window over all that is left of the RBSP shows no more. -/
theorem Br.startsWith.window_all {b : Br} {bs : List Bool} {n : Nat} (h : b.startsWith bs)
    (hend : 8 * b.rbsp.length = b.cursor + bs.length) (hn : bs.length ≤ n) : b.window n = bs := by
  obtain ⟨rest, hrest⟩ := h.window hn
  have hlen := window_length b n
  rw [hrest, List.length_append] at hlen
  rw [hrest, List.eq_nil_of_length_eq_zero (by omega : rest.length = 0), List.append_nil]

/-! ## Readers, one after another -/

theorem bind_of_ok {α β : Type} {r : Rd α} {f : α → Rd β} {p q : Ps} {v : α} (h : r p = .ok v q) : (r >>= f) p = f v q := by
  change EStateM.bind r f p = _
  rw [EStateM.bind, h]

theorem bind_of_error {α β : Type} {r : Rd α} {f : α → Rd β} {p q : Ps} {e : ErrCode} (h : r p = .error e q) :
    (r >>= f) p = .error e q := by
  change EStateM.bind r f p = _
  rw [EStateM.bind, h]

theorem natRd_ok {r : Rd Nat} {p q : Ps} {v : Nat} (h : r p = .ok v q) : natRd r p = .ok (v : Int) q := bind_of_ok h

theorem natRd_error {r : Rd Nat} {p q : Ps} {e : ErrCode} (h : r p = .error e q) : natRd r p = .error e q := bind_of_error h

/-- A self-delimiting code at the cursor is read, and the cursor moves past it. -/
theorem readCode_ok {α : Type} {dec : List Bool → CodeRes α} {n k : Nat} {bs : List Bool} {v : α} {p : Ps}
    (hdec : SelfDelimiting dec) (hv : dec bs = .ok v k) (hs : p.br.startsWith bs) (hn : bs.length ≤ n) :
    readCode n dec p = .ok v { p with br := p.br.advance k } := by
  obtain ⟨rest, hrest⟩ := hs.window hn
  rw [readCode, hrest, (hdec bs v k hv).2 rest]

theorem readCode_error {α : Type} {dec : List Bool → CodeRes α} {n k : Nat} {e : DecodeError} {p : Ps}
    (h : dec (p.br.window n) = .error e k) : readCode n dec p = .error (DecodeError.err e) { p with br := p.br.advance k } := by
  rw [readCode, h]

theorem readBits_one {p : Ps} {b : Bool} (hs : p.br.startsWith [b]) :
    readBits 1 p = .ok b.toNat { p with br := p.br.advance 1 } := by
  have hfit := hs.fits
  rw [List.length_singleton] at hfit
  have hw : p.br.window 1 = [b] := hs
  rw [readBits, if_neg (by omega), hw]
  cases b <;> rfl

/-! ## Keeping the element read -/

/-- An element whose reader moves the cursor alone. -/
theorem readElem_ok {s : State} {r : Rd Int} {x : Int} {b : Br} (h : r s.ps = .ok x { s.ps with br := b }) :
    s.readElem r = (s.setBr b).setWk { s.wk with elem := x, elem2 := 0 } :=
  parse_ok s r _ x _ h

theorem readElem_error {s : State} {r : Rd Int} {e : ErrCode} {b : Br} (h : r s.ps = .error e { s.ps with br := b }) :
    s.readElem r = (s.setBr b).raise e := by
  have hcabac : (s.setBr b).setCabac s.cabac = s.setBr b := rfl
  rw [State.readElem, parse_error s r _ e _ h]
  exact congrArg (State.raise · e) hcabac

/-! ## Exp-Golomb codes (R215-R217) -/

/-- The codeword of `l` zeros, a one and `l` bits. -/
theorem ueDecode_codeword {l : Nat} {info : List Bool} (hl : l ≤ 31) (hinfo : info.length = l) :
    ueDecode (List.replicate l false ++ true :: info) = .ok (2 ^ l - 1 + bitsToNat info) (2 * l + 1) := by
  rw [ueDecode, ueScan_prefix l 0 info (by omega), Nat.zero_add, if_neg (by omega), List.take_of_length_le (by omega)]

section
variable {p q : Ps} {k : Nat}

theorem readUe_ok {l : Nat} {info : List Bool} (hl : l ≤ 31) (hinfo : info.length = l)
    (hs : p.br.startsWith (List.replicate l false ++ true :: info)) :
    readUe p = .ok (2 ^ l - 1 + bitsToNat info) { p with br := p.br.advance (2 * l + 1) } :=
  readCode_ok .ue (ueDecode_codeword hl hinfo) hs (by simp; omega)

theorem readUe_zeros (hs : p.br.startsWith (List.replicate 32 false)) :
    readUe p = .error .invalid { p with br := p.br.advance 32 } := by
  obtain ⟨rest, hrest⟩ := hs.window (n := 64) (by simp)
  exact readCode_error (hrest ▸ ueDecode_zeros rest)

theorem readUe_truncated {l : Nat} (hl : l ≤ 31) (hend : 8 * p.br.rbsp.length = p.br.cursor + l)
    (hs : p.br.startsWith (List.replicate l false)) : readUe p = .error .bits { p with br := p.br.advance l } := by
  have hw : p.br.window 64 = List.replicate l false := hs.window_all (by simpa using hend) (by simp; omega)
  have hdec : ueDecode (List.replicate l false) = .error .truncated l := by
    have := ueScan_zeros l 0 [] (by omega)
    rwa [List.append_nil, Nat.zero_add] at this
  exact readCode_error (hw ▸ hdec)

theorem readSe_odd (h : readUe p = .ok k q) (hk : k % 2 = 1) : readSe p = .ok ((k + 1) / 2 : Nat) q := by
  rw [readSe, bind_of_ok h, seValue, if_pos hk]
  rfl

theorem readSe_even (h : readUe p = .ok k q) (hk : k % 2 = 0) : readSe p = .ok (-((k / 2 : Nat) : Int)) q := by
  rw [readSe, bind_of_ok h, seValue, if_neg (by omega)]
  rfl

/-- `te(v)` with a range maximum above 1 is `ue(v)`. -/
theorem readTe_of_gt_one {c : Nat} (hc : c > 1) : readTe c = readUe := by
  rw [readTe, if_neg (by omega), if_neg (by omega)]

/-- `te(v)` with range maximum 1 is one inverted bit. -/
theorem readTe_one {b : Bool} (hs : p.br.startsWith [b]) :
    readTe 1 p = .ok (if b then 0 else 1) { p with br := p.br.advance 1 } := by
  have hbit : readTe 1 p = .ok (1 - b.toNat) { p with br := p.br.advance 1 } := bind_of_ok (readBits_one hs)
  cases b <;> exact hbit

theorem readUeMax_le {m : Nat} (h : readUe p = .ok k q) (hk : k ≤ m) : readUeMax m p = .ok k q := by
  rw [readUeMax, bind_of_ok h, decide_eq_true hk]
  rfl

theorem readUeMax_gt {m : Nat} (h : readUe p = .ok k q) (hk : k > m) : readUeMax m p = .error .invalid q := by
  rw [readUeMax, bind_of_ok h, decide_eq_false (Nat.not_le.2 hk)]
  rfl

theorem readMe_ok (intra : Bool) (h : readUe p = .ok k q) (hk : k ≤ 47) :
    readMe intra p = .ok ((if intra then meIntra else meInter).getD k 0) q := bind_of_ok (readUeMax_le h hk)

theorem readMe_invalid (intra : Bool) (h : readUe p = .ok k q) (hk : k > 47) : readMe intra p = .error .invalid q :=
  bind_of_error (readUeMax_gt h hk)

end

/-- Settles O35, by the reader of each descriptor on a codeword, on a bit, on 32 zeros and on zeros up to the end. -/
theorem expGolombReads : Obligations.ExpGolombReads := by
  refine ⟨fun s l info hl hinfo hs => ?_, fun s b hs => ?_, fun s hs => ?_, fun s l hl hend hs => ?_⟩
  · have hue : readUe s.ps = _ := readUe_ok hl hinfo hs
    refine ⟨?_, fun hodd => ?_, fun heven => ?_, fun c hc => ?_, fun hk => ⟨?_, ?_⟩, fun hk b => ?_⟩
    · exact congrArg _ (readElem_ok (natRd_ok hue))
    · exact congrArg _ (readElem_ok (readSe_odd hue hodd))
    · exact congrArg _ (readElem_ok (readSe_even hue heven))
    · exact congrArg _ (readElem_ok (natRd_ok ((congrFun (readTe_of_gt_one hc) _).trans hue)))
    · exact congrArg _ (readElem_ok (natRd_ok (readMe_ok true hue hk)))
    · exact congrArg _ (readElem_ok (natRd_ok (readMe_ok false hue hk)))
    · exact congrArg _ (readElem_error (natRd_error (readMe_invalid b hue hk)))
  · have hte : readTe 1 s.ps = _ := readTe_one hs
    cases b <;> exact congrArg _ (readElem_ok (natRd_ok hte))
  · exact congrArg _ (readElem_error (natRd_error (readUe_zeros hs)))
  · exact congrArg _ (readElem_error (natRd_error (readUe_truncated hl hend hs)))

end Sys2Proof.Machine
end

section
/-! PROOFS. The codes of 30_encoding.md that only choose what is kept: NAL units that do nothing, slice types; and codes written out. -/

namespace Sys2Proof.Machine

/-- A NAL unit of an ignored type starts, and that is all (30_encoding.md R146). -/
theorem exec_ignoredNal : ∀ p ∈ ignoredNalOps, ∀ (r : BitVec 2) (s : State), exec (p.1 r) s = .next (s.startNal p.2 r) := by
  simp only [ignoredNalOps, List.forall_mem_cons, List.not_mem_nil, false_implies, implies_true, and_true]
  and_intros
  all_goals exact fun _ _ => rfl

/-- Recording an error latches it (60_exceptions.md R813). -/
theorem record_eq_latched (s : State) (e : ErrCode) :
    s.record e = s.setCsr (s.csr.latched e.code s.au.nalIndex s.errMb s.br.cursor) := recordAt_eq s e s.br.cursor

/-- Settles O23: an ignored NAL unit only starts, and a forbidden one only records its error. -/
theorem discardedNalUnits : Obligations.DiscardedNalUnits :=
  ⟨fun p hp r s => ⟨s.startNal p.2 r, exec_ignoredNal p hp r s, rfl, rfl⟩,
    fun _ s => congrArg Host.Outcome.next (record_eq_latched s .invalid)⟩

/-- Settles O26: each operation of the table sets the slice type in the header in progress. -/
theorem sliceTypesKept : Obligations.SliceTypesKept := by
  simp only [Obligations.SliceTypesKept, sliceTypeOps, List.forall_mem_cons, List.not_mem_nil, false_implies, implies_true, and_true]
  and_intros
  all_goals exact fun _ => rfl

/-- Settles O1: the decoder runs on each code written out. -/
theorem decodeSampleWords : Obligations.DecodeSampleWords := by
  unfold Obligations.DecodeSampleWords
  decide

end Sys2Proof.Machine
end

section
/-! PROOFS. The bit reader under the NAL layer (40_bitreader_nal.md): emulation prevention, the stop bit and fixed-length reads, then the operation that each piece of work selects. -/

namespace Sys2Proof.Machine

/-! ## Emulation prevention (R210) -/

/-- Inserting and removing count the same zero bytes, so removal drops the inserted bytes and no other. -/
theorem stripEpb_insertEpb (r : List Byte) : ∀ zeros, stripEpb zeros (insertEpb zeros r) = r := by
  induction r with
  | nil => exact fun _ => rfl
  | cons b r ih =>
    intro zeros
    by_cases hins : zeros ≥ 2 ∧ b.toNat ≤ 3
    · rw [insertEpb, if_pos hins, stripEpb, if_pos ⟨hins.1, rfl⟩, stripEpb, if_neg (by omega), ih]
    · have hkept : ¬ (zeros ≥ 2 ∧ b = 3) := fun ⟨hz, hb⟩ => hins ⟨hz, hb ▸ Nat.le_refl 3⟩
      rw [insertEpb, if_neg hins, stripEpb, if_neg hkept, ih]

/-- Settles O4: removal and insertion start with the same count. -/
theorem emulationPreventionUndone : Obligations.EmulationPreventionUndone := fun r => stripEpb_insertEpb r 0

/-! ## The stop bit (R211) -/

/-- The search for the lowest set bit stops at a set bit or at its end, and the bits it passed are 0. -/
theorem lowestSet_search (b : Byte) (f : Nat) : ∀ i,
    lowestSet b f i ≤ i + f ∧ (∀ j, i ≤ j → j < lowestSet b f i → b.getLsbD j = false) ∧
      (lowestSet b f i < i + f → b.getLsbD (lowestSet b f i) = true) := by
  induction f with
  | zero => exact fun i => ⟨Nat.le_refl _, fun j hij hj => absurd hij (Nat.not_le.2 hj), fun h => absurd h (Nat.lt_irrefl _)⟩
  | succ f ih =>
    intro i
    cases hb : b.getLsbD i with
    | true =>
      have hstop : lowestSet b (f + 1) i = i := if_pos hb
      rw [hstop]
      exact ⟨by omega, fun j _ _ => by omega, fun _ => hb⟩
    | false =>
      have hgo : lowestSet b (f + 1) i = lowestSet b f (i + 1) := if_neg (by simp [hb])
      obtain ⟨hle, hzero, hset⟩ := ih (i + 1)
      rw [hgo]
      refine ⟨by omega, fun j hij hj => ?_, fun h => hset (by omega)⟩
      rcases Nat.eq_or_lt_of_le hij with rfl | hlt
      · exact hb
      · exact hzero j hlt hj

/-- A nonzero byte has its lowest set bit where the search ends. -/
theorem lowestSet_spec {b : Byte} (hb : b ≠ 0) :
    lowestSet b 7 0 ≤ 7 ∧ b.getLsbD (lowestSet b 7 0) = true ∧ ∀ j, j < lowestSet b 7 0 → b.getLsbD j = false := by
  obtain ⟨hle, hzero, hset⟩ := lowestSet_search b 7 0
  refine ⟨by omega, ?_, fun j hj => hzero j (Nat.zero_le j) hj⟩
  cases hclear : b.getLsbD (lowestSet b 7 0) with
  | true => rfl
  | false =>
    refine absurd (BitVec.eq_of_getLsbD_eq fun j hj => ?_) hb
    have hend : ¬ lowestSet b 7 0 < 0 + 7 := fun h => by rw [hset h] at hclear; cases hclear
    rw [BitVec.ofNat_eq_ofNat, BitVec.getLsbD_zero]
    rcases Nat.lt_or_ge j (lowestSet b 7 0) with hlt | hge
    · exact hzero j (Nat.zero_le j) hlt
    · rw [show j = lowestSet b 7 0 by omega, hclear]

/-- `p` is the last set bit of an RBSP. -/
def LastSetBit (r : List Byte) (p : Nat) : Prop :=
  p < 8 * r.length ∧ (Br.ofRbsp r).bit p = true ∧ ∀ q, p < q → (Br.ofRbsp r).bit q = false

theorem LastSetBit.unique {r : List Byte} {p q : Nat} (hp : LastSetBit r p) (hq : LastSetBit r q) : p = q := by
  obtain ⟨_, hpset, hpmax⟩ := hp
  obtain ⟨_, hqset, hqmax⟩ := hq
  rcases Nat.lt_trichotomy p q with hlt | heq | hgt
  · exact absurd hqset (by simp [hpmax q hlt])
  · exact heq
  · exact absurd hpset (by simp [hqmax p hgt])

/-- The bits of the first byte. -/
theorem bit_cons_of_lt (b : Byte) (r : List Byte) {p : Nat} (hp : p < 8) :
    (Br.ofRbsp (b :: r)).bit p = b.getLsbD (7 - p) := by
  rw [Br.bit, Nat.div_eq_of_lt hp, Nat.mod_eq_of_lt hp, BitVec.getMsbD, decide_eq_true hp]
  rfl

/-- The bits after the first byte. -/
theorem bit_cons_add (b : Byte) (r : List Byte) (p : Nat) : (Br.ofRbsp (b :: r)).bit (p + 8) = (Br.ofRbsp r).bit p := by
  rw [Br.bit, Br.bit, Nat.add_div_right p (by decide), Nat.add_mod_right]
  rfl

theorem bit_of_zeros {r : List Byte} (h : ∀ b ∈ r, b = 0) (p : Nat) : (Br.ofRbsp r).bit p = false := by
  have hbyte : r.getD (p / 8) 0 = 0 := by
    rw [List.getD_eq_getElem?_getD]
    cases hget : r[p / 8]? with
    | none => rfl
    | some b => exact h b (List.mem_of_getElem? hget)
  change (r.getD (p / 8) 0).getMsbD (p % 8) = false
  rw [hbyte]
  exact BitVec.getMsbD_zero

/-- The last set bit of the bytes after the first is the last one of all. -/
theorem LastSetBit.cons {r : List Byte} {p : Nat} (b : Byte) (h : LastSetBit r p) : LastSetBit (b :: r) (p + 8) := by
  obtain ⟨hlen, hset, hmax⟩ := h
  refine ⟨by rw [List.length_cons]; omega, by rw [bit_cons_add, hset], fun q hq => ?_⟩
  obtain ⟨m, rfl⟩ := Nat.exists_eq_add_of_le' (by omega : 8 ≤ q)
  rw [bit_cons_add, hmax m (by omega)]

/-- A first byte that is the last nonzero one holds the last set bit. -/
theorem lastSetBit_firstByte {b : Byte} {r : List Byte} (hb : b ≠ 0) (hr : ∀ c ∈ r, c = 0) :
    LastSetBit (b :: r) (7 - lowestSet b 7 0) := by
  obtain ⟨hle, hset, hzero⟩ := lowestSet_spec hb
  refine ⟨by rw [List.length_cons]; omega, ?_, fun q hq => ?_⟩
  · rw [bit_cons_of_lt b r (by omega), Nat.sub_sub_self hle, hset]
  · rcases Nat.lt_or_ge q 8 with hlt | hge
    · rw [bit_cons_of_lt b r hlt, hzero _ (by omega)]
    · obtain ⟨m, rfl⟩ := Nat.exists_eq_add_of_le' hge
      rw [bit_cons_add, bit_of_zeros hr]

/-- Bytes that start one index later have their stop bit eight bits later. -/
theorem stopBitFrom_succ (r : List Byte) : ∀ k, stopBitFrom (k + 1) r = (stopBitFrom k r).map (· + 8) := by
  induction r with
  | nil => exact fun _ => rfl
  | cons b r ih =>
    intro k
    rw [stopBitFrom, ih (k + 1), stopBitFrom]
    cases stopBitFrom (k + 1) r with
    | some p => rfl
    | none =>
      by_cases hb : b = 0
      · simp [hb]
      · have hle := (lowestSet_spec hb).1
        simp only [Option.map_none, if_neg hb, Option.map_some, Option.some.injEq]
        omega

theorem stopBit_cons_of_some {b : Byte} {r : List Byte} {p : Nat} (h : stopBitFrom 0 r = some p) :
    stopBitFrom 0 (b :: r) = some (p + 8) := by
  rw [stopBitFrom, stopBitFrom_succ, h]
  rfl

theorem stopBit_cons_of_none {b : Byte} {r : List Byte} (h : stopBitFrom 0 r = none) :
    stopBitFrom 0 (b :: r) = if b = 0 then none else some (7 - lowestSet b 7 0) := by
  rw [stopBitFrom, stopBitFrom_succ, h]
  simp

/-- The stop bit, where there is one, is the last set bit; where there is none every byte is 0. -/
theorem stopBitFrom_spec (r : List Byte) :
    (∀ p, stopBitFrom 0 r = some p → LastSetBit r p) ∧ (stopBitFrom 0 r = none → ∀ b ∈ r, b = 0) := by
  induction r with
  | nil => exact ⟨nofun, fun _ => nofun⟩
  | cons b r ih =>
    obtain ⟨hsome, hnone⟩ := ih
    cases hr : stopBitFrom 0 r with
    | some p =>
      rw [stopBit_cons_of_some hr]
      exact ⟨fun q hq => Option.some.inj hq ▸ (hsome p hr).cons b, nofun⟩
    | none =>
      have hzeros := hnone hr
      rw [stopBit_cons_of_none hr]
      by_cases hb : b = 0
      · rw [if_pos hb]
        exact ⟨nofun, fun _ => List.forall_mem_cons.2 ⟨hb, hzeros⟩⟩
      · rw [if_neg hb]
        exact ⟨fun q hq => Option.some.inj hq ▸ lastSetBit_firstByte hb hzeros, nofun⟩

/-- Settles O5: the stop bit is a last set bit, there is only one, and bytes that are all 0 have none. -/
theorem stopBitIsLastSetBit : Obligations.StopBitIsLastSetBit := by
  intro r
  obtain ⟨hsome, hnone⟩ := stopBitFrom_spec r
  have hzeros {p : Nat} (hp : LastSetBit r p) (h : ∀ b ∈ r, b = 0) : False := by
    obtain ⟨_, hset, _⟩ := hp
    simp [bit_of_zeros h] at hset
  refine ⟨fun p => ⟨hsome p, fun hp => ?_⟩, ⟨hnone, fun h => ?_⟩, rfl, rfl⟩
  · change stopBitFrom 0 r = some p
    cases hr : stopBitFrom 0 r with
    | none => exact (hzeros hp (hnone hr)).elim
    | some q => rw [(hsome q hr).unique hp]
  · change stopBitFrom 0 r = none
    cases hr : stopBitFrom 0 r with
    | none => rfl
    | some q => exact (hzeros (hsome q hr) h).elim

/-! ## Fixed-length reads (R212, R214) -/

theorem bitsToNat_append_singleton (bs : List Bool) (b : Bool) : bitsToNat (bs ++ [b]) = 2 * bitsToNat bs + b.toNat := by
  rw [bitsToNat, List.foldl_append]
  rfl

theorem sum_map_double (f : Nat → Nat) (l : List Nat) : (l.map fun j => 2 * f j).sum = 2 * (l.map f).sum := by
  induction l with
  | nil => rfl
  | cons j l ih => rw [List.map_cons, List.sum_cons, ih, List.map_cons, List.sum_cons, Nat.mul_add]

/-- The value of `n` bits written most significant first: bit `j` weighs `2 ^ (n - 1 - j)`. -/
theorem bitsToNat_map_range (f : Nat → Bool) (n : Nat) :
    bitsToNat ((List.range n).map f) = ((List.range n).map fun j => (f j).toNat * 2 ^ (n - 1 - j)).sum := by
  induction n with
  | zero => rfl
  | succ n ih =>
    have hdouble : ((List.range n).map fun j => (f j).toNat * 2 ^ (n - j)) =
        (List.range n).map fun j => 2 * ((f j).toNat * 2 ^ (n - 1 - j)) := by
      refine List.map_congr_left fun j hj => ?_
      have hlt : j < n := List.mem_range.1 hj
      rw [show n - j = n - 1 - j + 1 by omega, Nat.pow_succ, ← Nat.mul_assoc, Nat.mul_comm]
    simp only [List.range_succ, List.map_append, List.map_singleton, bitsToNat_append_singleton, ih, List.sum_append,
      List.sum_singleton, Nat.add_sub_cancel, Nat.sub_self, Nat.pow_zero, Nat.mul_one, hdouble, sum_map_double]

/-- A bit of the RBSP is a binary digit of its byte. -/
theorem bit_toNat (b : Br) (p : Nat) : (b.bit p).toNat = (b.rbsp.getD (p / 8) 0).toNat / 2 ^ (7 - p % 8) % 2 := by
  have hp : p % 8 < 8 := Nat.mod_lt p (by decide)
  rw [Br.bit, BitVec.getMsbD, decide_eq_true hp, Bool.true_and, BitVec.getLsbD, Nat.toNat_testBit]

/-- Bits that lie within the RBSP have the value of their binary digits. -/
theorem bitsToNat_window {b : Br} {n : Nat} (h : b.cursor + n ≤ 8 * b.rbsp.length) :
    bitsToNat (b.window n) = ((List.range n).map fun j =>
      (b.rbsp.getD ((b.cursor + j) / 8) 0).toNat / 2 ^ (7 - (b.cursor + j) % 8) % 2 * 2 ^ (n - 1 - j)).sum := by
  rw [Br.window, Nat.min_eq_left (by omega), bitsToNat_map_range]
  simp only [bit_toNat]

theorem readBits_ok {p : Ps} {n : Nat} (h : p.br.cursor + n ≤ 8 * p.br.rbsp.length) :
    readBits n p = .ok (bitsToNat (p.br.window n)) { p with br := p.br.advance n } := if_neg (Nat.not_lt.2 h)

theorem readBits_pastEnd {p : Ps} {n : Nat} (h : p.br.cursor + n > 8 * p.br.rbsp.length) :
    readBits n p = .error .bits p := if_pos h

/-- The three fixed-length descriptors read alike. -/
theorem exec_fixedLength {i : Instr} {n : Nat} (hi : i = .descU n ∨ i = .descF n ∨ i = .descUv n) (s : State) :
    exec i s = .next (s.readElem (natRd (readBits n))) := by
  rcases hi with rfl | rfl | rfl <;> rfl

/-- Settles O34, by what `readBits` does within the RBSP and past its end. -/
theorem fixedLengthReads : Obligations.FixedLengthReads := by
  intro s n i hi
  rw [exec_fixedLength hi]
  refine ⟨fun hfit => ?_, fun hpast => ?_⟩
  · rw [← bitsToNat_window hfit]
    exact congrArg _ (readElem_ok (natRd_ok (readBits_ok hfit)))
  · exact congrArg _ (readElem_error (natRd_error (readBits_pastEnd hpast)))

/-! ## The operation that a piece of work selects -/

section
variable {sp : Space} {s : State} {i : Instr} {n : Nat}

theorem runCode_ok {v : Nat} (h : decode sp (codeBits sp v) = .ok i n) : runCode sp v s = exec i s := by
  rw [runCode, h]

theorem runKept_ok {k : List Bool × Wk} (h : decode sp k.1 = .ok i n) : runKept sp k s = exec i (s.setWk k.2) := by
  rw [runKept, h]

theorem fetchBits_ok (h : decode sp (s.br.window 64) = .ok i n) : fetchBits sp s = exec i (s.setBr (s.br.advance n)) := by
  rw [fetchBits, h]

theorem fetchBits_error {e : DecodeError} (h : decode sp (s.br.window 64) = .error e n) :
    fetchBits sp s = .next ((s.setBr (s.br.advance n)).raise (DecodeError.err e)) := by
  rw [fetchBits, h]

/-- A slice type that is not reserved selects its operation like any other code at the cursor. -/
theorem fetchSliceType_ok (h : decode .sliceType (s.br.window 64) = .ok i n) :
    fetchSliceType s = exec i (s.setBr (s.br.advance n)) := by
  obtain ⟨v, hv, hi⟩ := orReserved_eq_ok h
  simp only [fetchSliceType, hv, hi]

theorem fetchAe_ok {r : Rd Nat} {v : Nat} {p : Ps} (hr : r s.ps = .ok v p) (h : decode sp (codeBits sp v) = .ok i n) :
    fetchAe sp r s = exec i (s.setPs p) := by
  rw [fetchAe, hr]
  exact runCode_ok h

theorem fetchAe_error {r : Rd Nat} {e : ErrCode} {p : Ps} (hr : r s.ps = .error e p) :
    fetchAe sp r s = .next (((s.setBr p.br).setCabac p.cabac).raise e) := by
  rw [fetchAe, hr]

/-- Without CABAC macroblock and sub-macroblock types are coded at the cursor (44_mb_syntax.md R430, R432). -/
theorem fetch_cavlcType (hsp : sp ∈ [Space.mbI, .mbP, .mbB, .subP, .subB]) (hc : s.hdr.pps.cabac = false) :
    fetch sp s = fetchBits sp s := by
  simp only [List.mem_cons, List.not_mem_nil, or_false] at hsp
  rcases hsp with rfl | rfl | rfl | rfl | rfl
  all_goals exact if_neg (by simp [hc])

/-- With CABAC the engine yields the macroblock type (45_cabac_syntax.md R511-R514). -/
theorem fetch_cabacMbType (hsp : sp ∈ [Space.mbI, .mbP, .mbB]) (hc : s.hdr.pps.cabac = true) :
    fetch sp s = fetchAe sp (aeMbType s) s := by
  simp only [List.mem_cons, List.not_mem_nil, or_false] at hsp
  rcases hsp with rfl | rfl | rfl
  all_goals exact if_pos hc

/-- With CABAC the engine yields the sub-macroblock type (45_cabac_syntax.md R515). -/
theorem fetch_cabacSubType (hsp : sp ∈ [Space.subP, .subB]) (hc : s.hdr.pps.cabac = true) :
    fetch sp s = fetchAe sp (aeSubMbType s) s := by
  simp only [List.mem_cons, List.not_mem_nil, or_false] at hsp
  rcases hsp with rfl | rfl
  all_goals exact if_pos hc

end

/-- A step of the block's turn fetches the due operation. -/
theorem step_fetch {s : State} {sp : Space} {ts : List Task} (h : s.due (.fetch sp) ts) : step s = fetch sp (s.taken ts) :=
  step_due h

/-- Settles O6: the due piece of work names the space, and the space where its code stands. -/
theorem stepRunsTheDecodedOperation : Obligations.StepRunsTheDecodedOperation := by
  refine ⟨?op, ?nalHdr, ?typeCoded, ?typeRefused, ?sliceType, ?desc, ?skipP, ?skipB, ?rplm, ?mmco, ?host,
    ?mbType, ?subMbType, ?mbTypeError, ?subMbTypeError⟩
  case op => exact fun s sp v ts i n hdue hdec => (step_due hdue).trans (runCode_ok hdec)
  case nalHdr => exact fun s ts i n hdue hdec => (step_fetch hdue).trans (runCode_ok hdec)
  case typeCoded => exact fun s sp ts i n hsp hdue hc hdec =>
    (step_fetch hdue).trans ((fetch_cavlcType (s := s.taken ts) hsp hc).trans (fetchBits_ok hdec))
  case typeRefused => exact fun s sp ts e n hsp hdue hc hdec =>
    (step_fetch hdue).trans ((fetch_cavlcType (s := s.taken ts) hsp hc).trans (fetchBits_error hdec))
  case sliceType => exact fun s ts i n hdue hdec => (step_fetch hdue).trans (fetchSliceType_ok hdec)
  case desc => exact fun s d ts hdue => (step_fetch hdue).trans (runCode_ok (sp := .desc d) (v := 0) rfl)
  case skipP => exact fun s ts hdue => (step_fetch hdue).trans (runCode_ok (sp := .skipP) (v := 0) rfl)
  case skipB => exact fun s ts hdue => (step_fetch hdue).trans (runCode_ok (sp := .skipB) (v := 0) rfl)
  case rplm => exact fun s ts i n hdue hdec => (step_fetch hdue).trans (runKept_ok hdec)
  case mmco => exact fun s ts i n hdue hdec => (step_fetch hdue).trans (runKept_ok hdec)
  case host => exact fun s e q h => step_host h
  case mbType => exact fun s sp ts v p i n hsp hdue hc hr hdec =>
    (step_fetch hdue).trans ((fetch_cabacMbType (s := s.taken ts) hsp hc).trans (fetchAe_ok hr hdec))
  case subMbType => exact fun s sp ts v p i n hsp hdue hc hr hdec =>
    (step_fetch hdue).trans ((fetch_cabacSubType (s := s.taken ts) hsp hc).trans (fetchAe_ok hr hdec))
  case mbTypeError => exact fun s sp ts e p hsp hdue hc hr =>
    (step_fetch hdue).trans ((fetch_cabacMbType (s := s.taken ts) hsp hc).trans (fetchAe_error hr))
  case subMbTypeError => exact fun s sp ts e p hsp hdue hc hr =>
    (step_fetch hdue).trans ((fetch_cabacSubType (s := s.taken ts) hsp hc).trans (fetchAe_error hr))

end Sys2Proof.Machine
end

section
/-! PROOFS. Parameter sets (41_parameter_sets.md R240, R250): a NAL unit that only reads and stores, and an error outside a slice (60_exceptions.md R822). -/

namespace Sys2Proof.Machine

/-! ## An error outside a slice (60_exceptions.md R813, R822) -/

theorem errMb_of_not_inSlice {s : State} (h : s.inSlice = false) : s.errMb = 0xFFFF := by
  have hfsm : s.csr.fsm ≠ .decoding := by
    intro hd
    simp [State.inSlice, hd] at h
  rw [State.errMb, if_neg hfsm]

/-- Outside a slice an error is latched, without a macroblock, and the command's work is dropped; nothing else happens. -/
theorem raise_of_not_inSlice {s : State} (h : s.inSlice = false) (e : ErrCode) :
    s.raise e = (s.setCsr (s.csr.latched e.code s.au.nalIndex 0xFFFF s.br.cursor)).abandon := by
  rw [← errMb_of_not_inSlice h, ← record_eq_latched]
  simp [State.raise, h]

/-! ## A NAL unit that is parsed -/

section startNal
variable (s : State) (type : Nat) (refIdc : BitVec 2)
@[simp] theorem startNal_csr : (s.startNal type refIdc).csr = s.csr := rfl
@[simp] theorem startNal_sps : (s.startNal type refIdc).sps = s.sps := rfl
@[simp] theorem startNal_pps : (s.startNal type refIdc).pps = s.pps := rfl
@[simp] theorem startNal_fs : (s.startNal type refIdc).fs = s.fs := rfl
@[simp] theorem startNal_au : (s.startNal type refIdc).au = s.au := rfl
@[simp] theorem startNal_mem : (s.startNal type refIdc).mem = s.mem := rfl
@[simp] theorem startNal_tasks : (s.startNal type refIdc).tasks = s.tasks := rfl

/-- When a NAL unit starts, the bit reader stands at the first bit of its RBSP (40_bitreader_nal.md R220). -/
theorem startNal_ps : (s.startNal type refIdc).ps = { s.ps with br := Br.ofRbsp (stripEpb 0 s.payload) } := rfl
end startNal

section
variable {α : Type} {s : State} {r : Rd α} {v : α} {e : ErrCode} {p : Ps}

theorem parse_startNal_ok (hr : r { s.ps with br := Br.ofRbsp (stripEpb 0 s.payload) } = .ok v p)
    (type : Nat) (refIdc : BitVec 2) (k : α → State → State) :
    (s.startNal type refIdc).parse r k = k v ((s.startNal type refIdc).setPs p) :=
  parse_ok _ r k v p ((congrArg r (startNal_ps s type refIdc)).trans hr)

/-- Outside a slice an error in a NAL unit leaves the reader where it stopped, the error latched there, and the command to complete. -/
theorem parse_startNal_error (hr : r { s.ps with br := Br.ofRbsp (stripEpb 0 s.payload) } = .error e p)
    (hs : s.inSlice = false) (type : Nat) (refIdc : BitVec 2) (k : α → State → State) :
    (s.startNal type refIdc).parse r k =
      ((((s.startNal type refIdc).setBr p.br).setCabac p.cabac).setCsr
        (s.csr.latched e.code s.au.nalIndex 0xFFFF p.br.cursor)).abandon := by
  have hs' : (((s.startNal type refIdc).setBr p.br).setCabac p.cabac).inSlice = false := by simpa [State.inSlice] using hs
  rw [parse_error _ r k e p ((congrArg r (startNal_ps s type refIdc)).trans hr), raise_of_not_inSlice hs']
  simp

end

theorem exec_nalSps (refIdc : BitVec 2) (s : State) :
    exec (.nalSps refIdc) s = .next ((s.startNal 7 refIdc).parse readSps fun sps t => t.storeSps sps) := rfl

/-- A PPS is read from the SPS table and the configuration as they were: the start of its NAL unit leaves them alone (41_parameter_sets.md R251). -/
theorem exec_nalPps (refIdc : BitVec 2) (s : State) :
    exec (.nalPps refIdc) s = .next ((s.startNal 8 refIdc).parse (readPps s) fun pps t => t.storePps pps) := by
  have hread : readPps (s.startNal 8 refIdc) = readPps s := rfl
  rw [← hread]
  rfl

/-- Latching an error does not complete the command. -/
@[simp] theorem latched_busy (c : Csr) (code : Byte) (nal mb pos : Nat) : (c.latched code nal mb pos).busy = c.busy := by
  unfold Csr.latched
  split <;> rfl

/-! ## The tables (41_parameter_sets.md R240, R250) -/

section
variable {s : State}

theorem storeSps_own {sps : Sps} (h : sps.id < s.sps.length) : (s.storeSps sps).sps[sps.id]? = some (some sps) :=
  List.getElem?_set_self h

theorem storeSps_other {sps : Sps} {i : Nat} (h : i ≠ sps.id) : (s.storeSps sps).sps[i]? = s.sps[i]? :=
  List.getElem?_set_ne h.symm

theorem storePps_own {pps : Pps} (h : pps.id < s.pps.length) : (s.storePps pps).pps[pps.id]? = some (some pps) :=
  List.getElem?_set_self h

theorem storePps_other {pps : Pps} {i : Nat} (h : i ≠ pps.id) : (s.storePps pps).pps[i]? = s.pps[i]? :=
  List.getElem?_set_ne h.symm

end

/-- Settles O24: a set that is read goes to its own place of its table, and a failed read only records its error. -/
theorem parameterSetsStoredById : Obligations.ParameterSetsStoredById := by
  refine ⟨fun r s => ⟨fun sps p hr => ?spsStored, fun e p hr hs => ?spsFails⟩,
    fun r s => ⟨fun pps p hr => ?ppsStored, fun e p hr hs => ?ppsFails⟩⟩
  case spsStored =>
    refine ⟨_, (exec_nalSps r s).trans (congrArg _ (parse_startNal_ok hr 7 r _)), fun hid => ?own, fun i hi => ?other, ?frame⟩
    case own => exact storeSps_own (by simpa using hid)
    case other => exact (storeSps_other hi).trans (by simp)
    case frame => simp [State.storeSps]
  case ppsStored =>
    refine ⟨_, (exec_nalPps r s).trans (congrArg _ (parse_startNal_ok hr 8 r _)), fun hid => ?own, fun i hi => ?other, ?frame⟩
    case own => exact storePps_own (by simpa using hid)
    case other => exact (storePps_other hi).trans (by simp)
    case frame => simp [State.storePps]
  case spsFails =>
    refine ⟨_, (exec_nalSps r s).trans (congrArg _ (parse_startNal_error hr hs 7 r _)), ?_⟩
    simp [State.abandon]
  case ppsFails =>
    refine ⟨_, (exec_nalPps r s).trans (congrArg _ (parse_startNal_error hr hs 8 r _)), ?_⟩
    simp [State.abandon]

end Sys2Proof.Machine
end

section
/-! PROOFS. The slice header (42_slice_header.md R308): the three ways on once it is parsed, then the statement of that family. -/

namespace Sys2Proof.Machine

section
variable {s : State} {h : SliceHdr} {ts : List Task} {p : Ps}

/-- SP and SI slices are not decoded (42_slice_header.md R308). -/
theorem afterHeader_switching (hst : h.st = 3 ∨ h.st = 4) : s.afterHeader h = (s.setSl (some h)).raise .unsupported :=
  if_pos hst

/-- A redundant slice ends at once (42_slice_header.md R308). -/
theorem afterHeader_redundant (hst : h.st < 3) (hr : h.redundantPicCnt > 0) :
    s.afterHeader h = (s.setSl (some h)).sliceEnd :=
  (if_neg (by omega)).trans (if_pos hr)

/-- Any other slice queues the work before its first macroblock (43_slice_fsm.md R362-R364). -/
theorem afterHeader_primary (hst : h.st < 3) (hr : h.redundantPicCnt = 0) :
    s.afterHeader h = ((s.setSl (some h)).setFsm .headerParsed).push (headerTasks h s.au.curFrame.isNone) :=
  (if_neg (by omega)).trans (if_neg (by omega))

/-- The step that is due at a header goes on with the header read. -/
theorem step_sliceHeader (hdue : s.due .sliceHeader ts) (hread : readHeader (s.taken ts) s.hdr s.ps = .ok h p) :
    step s = .next (((s.taken ts).setPs p).afterHeader h) :=
  (step_due hdue).trans (congrArg Host.Outcome.next (parse_ok (s.taken ts) _ _ h p hread))

end

/-- Settles O27: a parsed header leads on by its slice type and its redundant count. -/
theorem headerOutcome : Obligations.HeaderOutcome := by
  intro s ts h p hdue hread
  have hstep := step_sliceHeader hdue hread
  refine ⟨fun hst => ?switching, fun hst hr => ⟨_, hstep, ?redundant⟩, fun hst hr => ⟨_, hstep, ?primary⟩⟩
  case switching => rw [hstep, afterHeader_switching hst]
  case redundant =>
    rw [afterHeader_redundant hst hr]
    simp [State.taken]
  case primary =>
    rw [afterHeader_primary hst hr]
    by_cases hI : h.sliceType % 5 = 2
    · have hintra : h.st = 2 := hI
      simp [headerTasks, State.taken, hI, hintra]
    · have hinter : h.st ≠ 2 := hI
      simp [headerTasks, modTasks, State.taken, hI, hinter]

end Sys2Proof.Machine
end

section
/-! PROOFS. Slice groups (43_slice_fsm.md R366-R368): the next macroblock address, the map of each type, then the statements. -/

namespace Sys2Proof.Machine

/-! ## The next macroblock address (R367) -/

/-- Settles O31: the search runs through the addresses in rising order. -/
theorem nextMacroblockAddress : Obligations.NextMacroblockAddress := by
  refine fun map size n => ⟨fun i => ?_, ?_⟩
  · rw [nextMbAddress, List.find?_range_eq_some]
    simp only [Bool.and_eq_true, decide_eq_true_eq, Bool.not_eq_true', Bool.and_eq_false_imp, decide_eq_false_iff_not,
      List.mem_range]
    constructor
    · rintro ⟨⟨hlt, hgroup⟩, hsize, hfirst⟩
      exact ⟨hlt, hsize, hgroup, fun j hj hji => hfirst j hji hj⟩
    · rintro ⟨hlt, hsize, hgroup, hfirst⟩
      exact ⟨⟨hlt, hgroup⟩, hsize, fun j hji hj => hfirst j hj hji⟩
  · rw [nextMbAddress, List.find?_range_eq_none]
    simp only [Bool.not_eq_true', Bool.and_eq_false_imp, decide_eq_true_eq, decide_eq_false_iff_not]
    exact ⟨fun h i hni his => h i his hni, fun h i his hni => h i hni his⟩

/-! ## Maps given entry by entry -/

theorem getElem?_map_range {α : Type} (f : Nat → α) {n i : Nat} (h : i < n) : ((List.range n).map f)[i]? = some (f i) := by
  simp [h]

/-! ## Interleaved groups (type 0) -/

/-- How many units the runs of the groups before `g` cover. -/
def MapArgs.runsBefore (a : MapArgs) (g : Nat) : Nat :=
  ((List.range g).map fun j => a.pps.runLengthMinus1.getD j 0 + 1).sum

section
variable (a : MapArgs)

theorem runsBefore_succ (g : Nat) : a.runsBefore (g + 1) = a.runsBefore g + (a.pps.runLengthMinus1.getD g 0 + 1) := by
  simp [MapArgs.runsBefore, List.range_succ]

theorem runsBefore_mono {g g' : Nat} (h : g ≤ g') : a.runsBefore g ≤ a.runsBefore g' := by
  induction h with
  | refl => exact Nat.le_refl _
  | step _ ih => rw [runsBefore_succ]; omega

theorem runsBefore_succ_le {g g' : Nat} (h : g < g') : a.runsBefore (g + 1) ≤ a.runsBefore g' := runsBefore_mono a h

/-- Every unit of a round lies in the run of a group. -/
theorem exists_run {n x : Nat} (h : x < a.runsBefore n) : ∃ g, g < n ∧ a.runsBefore g ≤ x ∧ x < a.runsBefore (g + 1) := by
  induction n with
  | zero => exact absurd h (Nat.not_lt_zero x)
  | succ n ih =>
    rcases Nat.lt_or_ge x (a.runsBefore n) with hlt | hge
    · obtain ⟨g, hg, hrun⟩ := ih hlt
      exact ⟨g, Nat.lt_succ_of_lt hg, hrun⟩
    · exact ⟨n, Nat.lt_succ_self n, hge, h⟩

/-- Unit `i` lies in the run of group `g` in round `k`. -/
def MapArgs.InRun (k g i : Nat) : Prop :=
  g < a.n ∧ k * a.runsBefore a.n + a.runsBefore g ≤ i ∧ i < k * a.runsBefore a.n + a.runsBefore (g + 1)

/-- The entries that a map has are those of the runs in turn. -/
def MapArgs.FollowsRuns (m : List Nat) : Prop := ∀ k g i, a.InRun k g i → i < m.length → m[i]? = some g

variable {a}

theorem MapArgs.InRun.round_eq {k g i : Nat} (h : a.InRun k g i) : i / a.runsBefore a.n = k := by
  obtain ⟨hg, hlo, hhi⟩ := h
  have hle := runsBefore_succ_le a hg
  refine Nat.div_eq_of_lt_le (by omega) ?_
  rw [Nat.succ_mul]
  omega

/-- A unit lies in one run only. -/
theorem MapArgs.InRun.group_eq {k k' g g' i : Nat} (h : a.InRun k g i) (h' : a.InRun k' g' i) : g = g' := by
  obtain rfl : k = k' := h.round_eq.symm.trans h'.round_eq
  obtain ⟨-, hlo, hhi⟩ := h
  obtain ⟨-, hlo', hhi'⟩ := h'
  rcases Nat.lt_trichotomy g g' with hlt | heq | hgt
  · have := runsBefore_succ_le a hlt
    omega
  · exact heq
  · have := runsBefore_succ_le a hgt
    omega

theorem exists_inRun (hn : 0 < a.n) (i : Nat) : ∃ g, a.InRun (i / a.runsBefore a.n) g i := by
  have hpos : 0 < a.runsBefore a.n := by
    have hone := runsBefore_mono a hn
    rw [runsBefore_succ] at hone
    omega
  obtain ⟨g, hg, hlo, hhi⟩ := exists_run a (Nat.mod_lt i hpos)
  have hdiv := Nat.div_add_mod' i (a.runsBefore a.n)
  exact ⟨g, hg, by omega, by omega⟩

/-- A run put after the runs before it. -/
theorem MapArgs.FollowsRuns.append {m : List Nat} {k g run : Nat} (h : a.FollowsRuns m) (hg : g < a.n)
    (hlen : m.length = k * a.runsBefore a.n + a.runsBefore g) (hrun : run ≤ a.pps.runLengthMinus1.getD g 0 + 1) :
    a.FollowsRuns (m ++ List.replicate run g) := by
  intro k' g' i hi hlt
  rw [List.length_append, List.length_replicate] at hlt
  rcases Nat.lt_or_ge i m.length with hold | hnew
  · rw [List.getElem?_append_left hold, h k' g' i hi hold]
  · have hin : a.InRun k g i := ⟨hg, by omega, by rw [runsBefore_succ]; omega⟩
    rw [List.getElem?_append_right hnew, List.getElem?_replicate, if_pos (by omega), hin.group_eq hi]

theorem interleavedRuns_full {f g : Nat} {acc : List Nat} (h : acc.length ≥ a.size) : interleavedRuns a f g acc = acc := by
  cases f with
  | zero => rfl
  | succ f => rw [interleavedRuns, if_pos h]

/-- With fuel for the units left, the runs fill the map in turn. -/
theorem interleavedRuns_spec (f : Nat) : ∀ (k g : Nat) (acc : List Nat), g < a.n → acc.length ≤ a.size →
    a.size ≤ f + acc.length → acc.length = k * a.runsBefore a.n + a.runsBefore g → a.FollowsRuns acc →
    (interleavedRuns a f g acc).length = a.size ∧ a.FollowsRuns (interleavedRuns a f g acc) := by
  induction f with
  | zero => exact fun k g acc _ hle hfuel _ hacc => ⟨Nat.le_antisymm hle (by rwa [Nat.zero_add] at hfuel), hacc⟩
  | succ f ih =>
    intro k g acc hg hle hfuel hlen hacc
    rcases Nat.lt_or_ge acc.length a.size with hroom | hfull
    case inr => rw [interleavedRuns_full hfull]; exact ⟨Nat.le_antisymm hle hfull, hacc⟩
    rw [interleavedRuns, if_neg (Nat.not_le.2 hroom)]
    have hnext := hacc.append hg hlen (Nat.min_le_left _ (a.size - acc.length))
    rcases Nat.lt_or_ge (a.size - acc.length) (a.pps.runLengthMinus1.getD g 0 + 1) with hcut | hwhole
    · have hfill : (acc ++ List.replicate (min (a.pps.runLengthMinus1.getD g 0 + 1) (a.size - acc.length)) g).length = a.size := by
        rw [List.length_append, List.length_replicate]
        omega
      rw [interleavedRuns_full (Nat.le_of_eq hfill.symm)]
      exact ⟨hfill, hnext⟩
    · have hsucc := runsBefore_succ a g
      rw [Nat.min_eq_left hwhole] at hnext ⊢
      have hlen' : (acc ++ List.replicate (a.pps.runLengthMinus1.getD g 0 + 1) g).length =
          acc.length + (a.pps.runLengthMinus1.getD g 0 + 1) := by rw [List.length_append, List.length_replicate]
      rcases Nat.lt_or_ge (g + 1) a.n with hmore | hlast
      · rw [Nat.mod_eq_of_lt hmore]
        exact ih k (g + 1) _ hmore (by omega) (by omega) (by omega) hnext
      · have hround : g + 1 = a.n := by omega
        have hzero : a.runsBefore 0 = 0 := rfl
        rw [hround] at hsucc
        rw [hround, Nat.mod_self]
        exact ih (k + 1) 0 _ (by omega) (by omega) (by omega) (by rw [Nat.succ_mul]; omega) hnext

/-- The map of type 0: the runs of the groups in turn. -/
theorem mapInterleaved_spec (hn : 0 < a.n) : (mapInterleaved a).length = a.size ∧ a.FollowsRuns (mapInterleaved a) :=
  interleavedRuns_spec a.size 0 0 [] hn (Nat.zero_le _) (Nat.le_refl _) (Nat.zero_mul _).symm
    fun _ _ i _ hi => absurd hi (Nat.not_lt_zero i)

theorem MapArgs.FollowsRuns.firstRound {m : List Nat} (h : a.FollowsRuns m) {g i : Nat} (hg : g < a.n) (hi : i < m.length)
    (hlo : a.runsBefore g ≤ i) (hhi : i < a.runsBefore (g + 1)) : m[i]? = some g :=
  h 0 g i ⟨hg, by omega, by omega⟩ hi

/-- A map of runs repeats after a round. -/
theorem MapArgs.FollowsRuns.periodic {m : List Nat} (h : a.FollowsRuns m) (hn : 0 < a.n) {i : Nat}
    (hround : a.runsBefore a.n ≤ i) (hi : i < m.length) : m[i]? = m[i - a.runsBefore a.n]? := by
  obtain ⟨g, hrun⟩ := exists_inRun hn (i - a.runsBefore a.n)
  obtain ⟨hg, hlo, hhi⟩ := id hrun
  have hlater : a.InRun ((i - a.runsBefore a.n) / a.runsBefore a.n + 1) g i :=
    ⟨hg, by rw [Nat.succ_mul]; omega, by rw [Nat.succ_mul]; omega⟩
  rw [h _ g i hlater hi, h _ g _ hrun (by omega)]

end

/-! ## The other maps -/

/-- Unit `i` lies in the rectangle of group `k` (type 2). -/
@[reducible] def MapArgs.InRect (a : MapArgs) (k i : Nat) : Prop :=
  a.pps.topLeft.getD k 0 / a.wm ≤ i / a.wm ∧ i / a.wm ≤ a.pps.bottomRight.getD k 0 / a.wm ∧
    a.pps.topLeft.getD k 0 % a.wm ≤ i % a.wm ∧ i % a.wm ≤ a.pps.bottomRight.getD k 0 % a.wm

theorem mapForeground_getElem? {a : MapArgs} {i : Nat} (hi : i < a.size) :
    (mapForeground a)[i]? =
      some (((List.range (a.n - 1)).find? fun k => decide (a.InRect k i)).getD (a.n - 1)) := by
  rw [mapForeground, getElem?_map_range _ hi]
  simp only [Bool.decide_and, Bool.and_assoc]

/-- The map of type 2: a unit's group is the lowest whose rectangle holds it, and the last one takes what is left. -/
theorem mapForeground_entry {a : MapArgs} {i : Nat} (hi : i < a.size) :
    ∃ g, (mapForeground a)[i]? = some g ∧ g ≤ a.n - 1 ∧
      ∀ k, k < a.n - 1 → (a.InRect k i → g ≤ k) ∧ (g = k → a.InRect k i) := by
  refine ⟨_, mapForeground_getElem? hi, ?_⟩
  cases hfind : (List.range (a.n - 1)).find? fun k => decide (a.InRect k i) with
  | none =>
    have hout : ∀ k, k < a.n - 1 → ¬ a.InRect k i := by
      simpa only [Bool.not_eq_true', decide_eq_false_iff_not] using List.find?_range_eq_none.1 hfind
    exact ⟨Nat.le_refl _, fun k hk => ⟨fun hin => absurd hin (hout k hk), fun heq => absurd heq (Nat.ne_of_gt hk)⟩⟩
  | some g =>
    obtain ⟨hin, hg, hfirst⟩ := List.find?_range_eq_some.1 hfind
    simp only [Bool.not_eq_true', decide_eq_false_iff_not] at hfirst
    exact ⟨Nat.le_of_lt (List.mem_range.1 hg), fun k _ =>
      ⟨fun hk => Nat.not_lt.1 fun hlt => hfirst k hlt hk, fun heq => heq ▸ of_decide_eq_true hin⟩⟩

/-- The map of type 5: the columns are counted one after another. -/
theorem mapWipe_entry {a : MapArgs} {i j : Nat} (hi : i < a.hm) (hj : j < a.wm) :
    (mapWipe a)[i * a.wm + j]? = some (if j * a.hm + i < a.sizeUl then a.dir else 1 - a.dir) := by
  have hlt : i * a.wm + j < a.size := by
    have hrow := Nat.mul_le_mul_right a.wm (Nat.succ_le_of_lt hi)
    rw [Nat.succ_mul] at hrow
    rw [MapArgs.size, Nat.mul_comm a.wm]
    omega
  have hcol : (i * a.wm + j) % a.wm = j := by rw [Nat.mul_comm, Nat.mul_add_mod, Nat.mod_eq_of_lt hj]
  have hrow : (i * a.wm + j) / a.wm = i := by
    rw [Nat.mul_comm, Nat.mul_add_div (by omega), Nat.div_eq_of_lt hj, Nat.add_zero]
  rw [mapWipe, getElem?_map_range _ hlt, hcol, hrow]

/-! ## The arguments of a slice header -/

section
variable (h : SliceHdr)

theorem mapArgs_n_pos : 0 < h.mapArgs.n := Nat.succ_pos _
theorem mapArgs_wm_pos : 0 < h.mapArgs.wm := Nat.succ_pos _
theorem mapArgs_hm_pos : 0 < h.mapArgs.hm := Nat.succ_pos _
theorem mapArgs_dir_le : h.mapArgs.dir ≤ 1 := Bool.toNat_le _
theorem mapArgs_u0_le : h.mapArgs.u0 ≤ h.mapArgs.size := Nat.min_le_right _ _

end

/-- Settles O32, by the entries of each map. -/
theorem sliceGroupMaps : Obligations.SliceGroupMaps := by
  intro s a sizeUl
  have hn : 0 < a.n := mapArgs_n_pos s.hdr
  obtain ⟨hlen0, hruns⟩ := mapInterleaved_spec hn
  obtain ⟨hlen3, hcount, hwalk⟩ := mapBoxOut_spec (mapArgs_dir_le s.hdr) (mapArgs_wm_pos s.hdr) (mapArgs_hm_pos s.hdr) (mapArgs_u0_le s.hdr)
  have hlen {f : Nat → Nat} : ((List.range a.size).map f).length = a.wm * a.hm := by rw [List.length_map, List.length_range]; rfl
  refine ⟨⟨mapInterleaved a, rfl, hlen0, fun i g hg hi hlo hhi => ?_, fun i hround hi => ?_⟩,
    ⟨mapDispersed a, rfl, hlen, fun i hi => getElem?_map_range _ hi⟩,
    ⟨mapForeground a, rfl, hlen, fun i hi => mapForeground_entry hi⟩,
    ⟨mapBoxOut a, rfl, hlen3, hcount, hwalk⟩,
    ⟨mapRaster a, rfl, hlen, fun i hi => getElem?_map_range _ hi⟩,
    ⟨mapWipe a, rfl, hlen, fun i j hi hj => mapWipe_entry hi hj⟩,
    ⟨mapExplicit a, rfl, hlen, fun i hi => getElem?_map_range _ hi⟩⟩
  · exact hruns.firstRound hg (hlen0 ▸ hi) hlo hhi
  · exact hruns.periodic hn hround (hlen0 ▸ hi)

end Sys2Proof.Machine
end

section
/-! PROOFS. The start of a slice NAL unit and of a slice, and the frame allocation between them (43_slice_fsm.md R361, R362, R364). -/

namespace Sys2Proof.Machine

/-! ## A slice NAL unit (R361) -/

section
variable {s : State} {type : Nat} {refIdc : BitVec 2}

/-- In a failed access unit a slice NAL unit is not parsed. -/
theorem startSlice_failed (h : s.au.failed = true) :
    s.startSlice type refIdc = ((s.startNal type refIdc).setFsm .created).sliceEnd := if_pos h

theorem startSlice_opens (h : s.au.failed = false) :
    s.startSlice type refIdc =
      (((s.startNal type refIdc).setFsm .created).setSl
        (some { SliceHdr.empty with nalType := type, nalRefIdc := refIdc.toNat })).push sliceTasks := if_neg (by simp [h])

end

/-- Settles O25, by whether the access unit has failed. -/
theorem sliceNalUnit : Obligations.SliceNalUnit := by
  intro i n r s hi
  have hexec : exec i s = .next (s.startSlice n r) := by rcases hi with ⟨rfl, rfl⟩ | ⟨rfl, rfl⟩ <;> rfl
  refine ⟨_, hexec, ?_⟩
  cases hfail : s.au.failed with
  | true =>
    rw [startSlice_failed hfail]
    simp [State.startNal]
  | false =>
    rw [startSlice_opens hfail]
    simp [State.startNal, sliceTasks]

/-! ## Frames that lose their mark (49_reflist.md R782) -/

theorem frame_eq_free {s : State} {h : Nat} (hlen : s.fs.length ≤ h) : s.frame h = Frame.free := by
  rw [State.frame, List.getD_eq_getElem?_getD, List.getElem?_eq_none hlen, Option.getD_none]

/-- A frame that has no mark loses none, also when the table has no such frame. -/
theorem frame_unmark (s : State) (h g : Nat) : (s.unmark h).frame g = if g = h then s.unmarkedFrame h else s.frame g := by
  rw [State.unmark, frame_updFrame]
  by_cases hg : g = h
  · subst hg
    rcases Nat.lt_or_ge g s.fs.length with hlt | hge
    · simp [hlt, State.unmarkedFrame]
    · simp [Nat.not_lt.2 hge, State.unmarkedFrame, frame_eq_free hge, Frame.free]
  · simp [hg]

/-- Unmarking changes nothing but the frames. -/
theorem unmarkAll_eq (hs : List Nat) : ∀ s : State, s.unmarkAll hs = s.setFs (s.unmarkAll hs).fs := by
  induction hs with
  | nil => exact fun _ => rfl
  | cons h hs ih => exact fun s => ih (s.unmark h)

section
variable (s : State) (hs : List Nat)
@[simp] theorem unmarkAll_tasks : (s.unmarkAll hs).tasks = s.tasks := by rw [unmarkAll_eq]; rfl
@[simp] theorem unmarkAll_mem : (s.unmarkAll hs).mem = s.mem := by rw [unmarkAll_eq]; rfl
@[simp] theorem unmarkAll_au : (s.unmarkAll hs).au = s.au := by rw [unmarkAll_eq]; rfl
@[simp] theorem unmarkAll_savedPools : (s.unmarkAll hs).savedPools = s.savedPools := by rw [unmarkAll_eq]; rfl
end

theorem frame_unmarkAll (hs : List Nat) (g : Nat) :
    ∀ s : State, (s.unmarkAll hs).frame g = if g ∈ hs then s.unmarkedFrame g else s.frame g := by
  induction hs with
  | nil => exact fun _ => rfl
  | cons h hs ih =>
    intro s
    have htwice : (s.unmark h).unmarkedFrame g = s.unmarkedFrame g := by
      rw [State.unmarkedFrame, frame_unmark]
      by_cases hg : g = h
      · subst hg
        simp [State.unmarkedFrame, State.unmark]
      · simp [hg, State.unmarkedFrame, State.unmark]
    change ((s.unmark h).unmarkAll hs).frame g = _
    rw [ih, htwice, frame_unmark]
    by_cases hg : g = h
    · simp [hg]
    · simp [hg]

theorem mem_marked {s : State} {g : Nat} : g ∈ s.marked ↔ g < s.fs.length ∧ (s.frame g).mark ≠ .unused := by
  simp [State.marked]

/-! ## The choice of a frame (R362) -/

theorem frame_eq_getElem {s : State} {g : Nat} (h : g < s.fs.length) : s.frame g = s.fs[g] := by
  rw [State.frame, List.getD_eq_getElem?_getD, List.getElem?_eq_getElem h, Option.getD_some]

theorem freeHandle_eq_none {s : State} (h : ∀ f ∈ s.fs, f.inUse = true) : s.freeHandle = none := by
  refine List.find?_range_eq_none.2 fun i hi => ?_
  simp [frame_eq_getElem hi, h _ (List.getElem_mem hi)]

theorem freeHandle_eq_some {s : State} {h : Nat} (hlt : h < s.fs.length) (hfree : (s.frame h).inUse = false)
    (hlow : ∀ g, g < h → (s.frame g).inUse = true) : s.freeHandle = some h :=
  List.find?_range_eq_some.2 ⟨by simp [hfree], List.mem_range.2 hlt, fun g hg => by simp [hlow g hg]⟩

theorem alloc_none {s : State} (h : s.freeHandle = none) : s.alloc = s.raise .noFrame := by
  rw [State.alloc, h]

theorem alloc_some {s : State} {h : Nat} (hh : s.freeHandle = some h) :
    s.alloc = (if s.hdr.idr then s.emptyPools else s).push [.op .pocType s.hdr.sps.pocType, .allocFinish h] := by
  rw [State.alloc, hh]

/-- The frames after an IDR picture emptied the pools (49_reflist.md R771). -/
theorem frame_emptyPools (s : State) {g : Nat} (hg : g < s.fs.length) :
    s.emptyPools.frame g = if (s.frame g).mark = .unused then s.frame g else s.unmarkedFrame g := by
  refine (frame_unmarkAll s.marked g (s.setSavedPools _)).trans ?_
  by_cases hm : (s.frame g).mark = .unused
  · rw [if_neg fun h => (mem_marked.1 h).2 hm, if_pos hm]
    rfl
  · rw [if_pos (mem_marked.2 ⟨hg, hm⟩), if_neg hm]
    rfl

section
variable (s : State)
@[simp] theorem emptyPools_tasks : s.emptyPools.tasks = s.tasks := by simp [State.emptyPools]
@[simp] theorem emptyPools_mem : s.emptyPools.mem = s.mem := by simp [State.emptyPools]
@[simp] theorem emptyPools_au : s.emptyPools.au = s.au := by simp [State.emptyPools]
@[simp] theorem emptyPools_savedPools : s.emptyPools.savedPools = some ⟨s.fs.map (·.mark), s.maxLongTermFrameIdx⟩ := by simp [State.emptyPools]
end

/-- Settles O28, by the lowest free handle and whether the picture is an IDR picture. -/
theorem allocationChoosesTheLowestFreeFrame : Obligations.AllocationChoosesTheLowestFreeFrame := by
  intro s ts hdue
  refine ⟨fun hall => ?_, fun h hlt hfree hlow => ⟨_, step_due hdue, ?_⟩⟩
  · exact (step_due hdue).trans (congrArg Host.Outcome.next (alloc_none (freeHandle_eq_none hall)))
  · have hchosen : (s.taken ts).freeHandle = some h := freeHandle_eq_some hlt hfree hlow
    rw [alloc_some hchosen]
    by_cases hidr : s.hdr.nalType = 5
    · have hempty : (s.taken ts).hdr.idr = true := decide_eq_true hidr
      rw [hempty, if_pos rfl]
      refine ⟨?tasks, emptyPools_mem (s.taken ts), emptyPools_au (s.taken ts), fun hne => absurd hidr hne,
        fun _ => ⟨rfl, emptyPools_savedPools (s.taken ts), fun g hg => frame_emptyPools (s.taken ts) hg⟩⟩
      case tasks => rw [push_tasks, emptyPools_tasks]; rfl
    · have hkept : (s.taken ts).hdr.idr = false := decide_eq_false hidr
      rw [hkept, if_neg Bool.false_ne_true]
      exact ⟨rfl, rfl, rfl, fun _ => ⟨rfl, rfl, rfl⟩, fun h => absurd h hidr⟩

/-! ## Filling the chosen frame (R362) -/

theorem frameFits_iff (s : State) (h : Nat) :
    s.frameFits h = true ↔ s.frameStart h + 384 * s.hdr.sps.sizeInMbs ≤ 2 ^ s.params.addrW := decide_eq_true_iff

section
variable (s : State) (h : Nat)

@[simp] theorem allocFinish_csr : (s.allocFinish h).csr = s.csr := rfl

theorem allocFinish_frame (g : Nat) :
    (s.allocFinish h).frame g = if g = h ∧ h < s.fs.length then allocFrame (s.frame h) s.hdr s.wk else s.frame g :=
  frame_updFrame s h g _

theorem allocFinish_length : (s.allocFinish h).fs.length = s.fs.length := updFrame_length s h _

theorem allocFinish_au :
    (s.allocFinish h).au = { s.au with
      curFrame := some h
      firstSlice := some s.hdr
      mbInfo := List.replicate s.hdr.sps.sizeInMbs MbInfo.fresh
      map := List.replicate s.hdr.sps.sizeInMbs 0 } := rfl

theorem allocFinish_dbk :
    (s.allocFinish h).dbk = s.dbk.modify h fun _ => ⟨List.replicate s.hdr.sps.sizeInMbs DbkMb.fresh, [], false⟩ := rfl

theorem allocFinish_tasks :
    (s.allocFinish h).tasks =
      (if s.hdr.pps.numSliceGroupsMinus1 > 0 then [.op .sgMap s.hdr.pps.mapType] else []) ++ s.tasks := rfl

theorem allocFinish_byteAt (hm : Mem.wf s.mem = true) (a : Nat) :
    (s.allocFinish h).byteAt a =
      if s.frameStart h ≤ a ∧ a < s.frameStart h + 384 * s.hdr.sps.sizeInMbs then Config.freeSample s.freeCtr a
      else s.byteAt a :=
  freeSamples_byteAt (s.fillRecords h) hm h s.hdr.sps.sizeInMbs a

/-- No macroblock of the new picture is decoded. -/
theorem allocFinish_mbInfoAt (a : Nat) : (s.allocFinish h).mbInfoAt a = MbInfo.fresh := by
  rw [State.mbInfoAt, allocFinish_au, List.getD_eq_getElem?_getD, List.getElem?_replicate]
  split <;> rfl

/-- The deblocker's record of the new picture is empty. -/
theorem mem_allocFinish_dbk {d : Dbk} (hd : d ∈ (s.allocFinish h).dbk[h]?) :
    d = ⟨List.replicate s.hdr.sps.sizeInMbs DbkMb.fresh, [], false⟩ := by
  rw [allocFinish_dbk, List.getElem?_modify_eq] at hd
  obtain ⟨_, _, heq⟩ := Option.map_eq_some_iff.1 hd
  exact heq.symm

end

/-- Settles O29, by whether the frame fits, and then by what the allocation leaves in each field. -/
theorem allocationFillsTheFrame : Obligations.AllocationFillsTheFrame := by
  intro s ts h hdue hlt start stop
  have hfits : (s.taken ts).frameFits h = true ↔ stop ≤ 2 ^ s.params.addrW := frameFits_iff (s.taken ts) h
  refine ⟨fun hover => ?_, fun hfit => ⟨(s.taken ts).allocFinish h, ?_⟩⟩
  · exact (step_due hdue).trans (if_neg fun hf => absurd (hfits.1 hf) (Nat.not_le.2 hover))
  · have hframe : ((s.taken ts).allocFinish h).frame h = allocFrame (s.frame h) s.hdr s.wk :=
      (allocFinish_frame (s.taken ts) h h).trans (if_pos ⟨rfl, hlt⟩)
    rw [hframe]
    refine ⟨(step_due hdue).trans (if_pos (hfits.2 hfit)), ⟨allocFinish_length _ h, fun g hg => ?other⟩, allocFinish_csr (s.taken ts) h,
      fun hm a => allocFinish_byteAt (s.taken ts) h hm a,
      rfl, rfl, rfl, rfl, rfl, rfl, rfl, rfl, rfl, rfl, rfl, rfl, rfl, rfl, rfl, rfl,
      fun a => ?mbInfo, fun d hd => ?dbk, fun hn => ?groups, fun hn => ⟨?oneGroup, fun a ha => ?map⟩⟩
    case other => exact (allocFinish_frame (s.taken ts) h g).trans (if_neg fun hand => hg hand.1)
    case mbInfo => rw [allocFinish_mbInfoAt]; rfl
    case dbk =>
      rw [mem_allocFinish_dbk _ h hd]
      exact ⟨rfl, fun m hm => List.eq_of_mem_replicate hm ▸ rfl⟩
    case groups => exact congrArg (· ++ ts) (if_pos hn)
    case oneGroup => exact congrArg (· ++ ts) (if_neg (by change ¬ s.hdr.pps.numSliceGroupsMinus1 > 0; omega))
    case map =>
      change (List.replicate s.hdr.sps.sizeInMbs 0)[a]? = some 0
      rw [List.getElem?_replicate, if_pos ha]

/-! ## The start of CABAC (45_cabac_syntax.md R500, R501) -/

/-- The bit position at or after the cursor where a byte begins. -/
def Br.aligned (b : Br) : Nat := b.cursor + (8 - b.cursor % 8) % 8

/-- Nine bits from the start of a byte on are that byte and the top bit of the next. -/
theorem bitsToNat_nine {b : Br} {q : Nat} (hq : b.cursor = 8 * q) (h : b.cursor + 9 ≤ 8 * b.rbsp.length) :
    bitsToNat (b.window 9) = 2 * (b.rbsp.getD q 0).toNat + (b.rbsp.getD (q + 1) 0).toNat / 128 := by
  have hbyte (j : Nat) (hj : j < 8) : (8 * q + j) / 8 = q ∧ (8 * q + j) % 8 = j := by omega
  have hnext : (8 * q + 8) / 8 = q + 1 ∧ (8 * q + 8) % 8 = 0 := by omega
  have hlt := (b.rbsp.getD q 0).isLt
  have hlt' := (b.rbsp.getD (q + 1) 0).isLt
  rw [bitsToNat_window h, hq]
  simp only [List.range_succ, List.range_zero, List.nil_append, List.map_append, List.map_cons, List.map_nil,
    List.sum_append, List.sum_cons, List.sum_nil, hbyte 0 (by decide), hbyte 1 (by decide), hbyte 2 (by decide),
    hbyte 3 (by decide), hbyte 4 (by decide), hbyte 5 (by decide), hbyte 6 (by decide), hbyte 7 (by decide), hnext]
  omega

/-- The contexts with which a slice starts (43_slice_fsm.md R364). -/
def SliceHdr.startContexts (h : SliceHdr) : List Ctx := initContexts (if h.st = 2 then 0 else h.cabacInitIdc + 1) h.sliceQpY

/-- The reader with every context set, where the engine's first bits begin. -/
def Ps.aligned (p : Ps) (h : SliceHdr) : Ps :=
  { p with br := { p.br with cursor := p.br.aligned }, cabac := p.cabac.startContexts h.startContexts }

/-- The reader with the engine started on its nine bits. -/
def Ps.started (p : Ps) (h : SliceHdr) : Ps :=
  { p with
    br := { p.br with cursor := p.br.aligned + 9 }
    cabac := (p.aligned h).cabac.start (bitsToNat ((p.aligned h).br.window 9)) (p.br.aligned + 9) }

section
variable {h : SliceHdr} {p : Ps}

theorem startCabac_align (hfit : p.br.aligned ≤ 8 * p.br.rbsp.length) : startCabac h p = initEngine (p.aligned h) := by
  unfold startCabac
  rw [bind_of_ok (show (get : Rd Ps) p = .ok p p from rfl), bind_of_ok (readBits_ok hfit)]
  rfl

theorem startCabac_ok (hfit : p.br.aligned + 9 ≤ 8 * p.br.rbsp.length) : startCabac h p = .ok () (p.started h) := by
  have hread := readBits_ok (p := p.aligned h) hfit
  rw [startCabac_align (by omega), initEngine, bind_of_ok hread]
  rfl

theorem startCabac_error (hfit : p.br.aligned ≤ 8 * p.br.rbsp.length) (hend : p.br.aligned + 9 > 8 * p.br.rbsp.length) :
    startCabac h p = .error .bits (p.aligned h) := by
  have hread := readBits_pastEnd (p := p.aligned h) hend
  rw [startCabac_align hfit, initEngine, bind_of_error hread]

/-- The engine starts with the byte at the aligned position and the top bit of the next as its offset. -/
theorem started_offset (hfit : p.br.aligned + 9 ≤ 8 * p.br.rbsp.length) :
    (p.started h).cabac.offset.toNat =
      2 * (p.br.rbsp.getD (p.br.aligned / 8) 0).toNat + (p.br.rbsp.getD (p.br.aligned / 8 + 1) 0).toNat / 128 := by
  have hbyte : (p.aligned h).br.cursor = 8 * (p.br.aligned / 8) := by
    change p.br.aligned = _
    rw [Br.aligned]
    omega
  have hlt := (p.br.rbsp.getD (p.br.aligned / 8) 0).isLt
  have hlt' := (p.br.rbsp.getD (p.br.aligned / 8 + 1) 0).isLt
  have hnine := bitsToNat_nine hbyte hfit
  refine (BitVec.toNat_ofNat _ 9).trans ?_
  rw [hnine, Nat.mod_eq_of_lt]
  · rfl
  · change 2 * (p.br.rbsp.getD (p.br.aligned / 8) 0).toNat + (p.br.rbsp.getD (p.br.aligned / 8 + 1) 0).toNat / 128 < _
    omega

end

theorem clip3_eq {lo hi : Int} (h : lo ≤ hi) (v : Int) : clip3 lo hi v = max lo (min hi v) := by
  unfold clip3
  split
  · omega
  · split <;> omega

/-- The context of `(m, n)` at a QP (45_cabac_syntax.md R501). -/
theorem initCtx_eq (mn : Int × Int) (qp : Int) :
    initCtx mn qp =
      let pre := max 1 (min 126 (mn.1 * max 0 (min 51 qp) / 16 + mn.2))
      if pre ≤ 63 then ⟨(63 - pre).toNat, 0⟩ else ⟨(pre - 64).toNat, 1⟩ := by
  have hqp : clip3 0 51 qp = max 0 (min 51 qp) := clip3_eq (by decide) qp
  have hsar : sar (mn.1 * max 0 (min 51 qp)) 4 = mn.1 * max 0 (min 51 qp) / 16 := rfl
  rw [initCtx, hqp, hsar, clip3_eq (by decide)]

theorem initContexts_length (t : Nat) (qp : Int) : (initContexts t qp).length = 460 := by simp [initContexts]

theorem initContexts_getElem? {t i : Nat} (qp : Int) (hi : i < 460) :
    (initContexts t qp)[i]? = some (if i = 276 then ⟨63, 0⟩ else initCtx (Config.cabacInitMN t i) qp) := by
  simp [initContexts, hi]

/-! ## The start of a slice (R364) -/

section
variable (s : State)
@[simp] theorem startDs_ds : s.startDs.ds = dsOf s.au.sliceCount s.hdr := rfl
@[simp] theorem startDs_au : s.startDs.au = { s.au with sliceCount := s.au.sliceCount + 1 } := rfl
@[simp] theorem startDs_csr : s.startDs.csr = s.csr := rfl
@[simp] theorem startDs_sl : s.startDs.sl = s.sl := rfl
@[simp] theorem startDs_fs : s.startDs.fs = s.fs := rfl
@[simp] theorem startDs_mem : s.startDs.mem = s.mem := rfl
@[simp] theorem startDs_br : s.startDs.br = s.br := rfl
@[simp] theorem startDs_cabac : s.startDs.cabac = s.cabac := rfl
@[simp] theorem startDs_tasks : s.startDs.tasks = s.tasks := rfl
theorem startDs_ps : s.startDs.ps = s.ps := rfl
@[simp] theorem startLoop_ds : s.startLoop.ds = s.ds := rfl
@[simp] theorem startLoop_au : s.startLoop.au = s.au := rfl
@[simp] theorem startLoop_csr : s.startLoop.csr = { s.csr with fsm := .decoding } := rfl
@[simp] theorem startLoop_sl : s.startLoop.sl = s.sl := rfl
@[simp] theorem startLoop_fs : s.startLoop.fs = s.fs := rfl
@[simp] theorem startLoop_mem : s.startLoop.mem = s.mem := rfl
@[simp] theorem startLoop_br : s.startLoop.br = s.br := rfl
@[simp] theorem startLoop_dbk : s.startLoop.dbk = s.dbk := rfl
@[simp] theorem startLoop_cabac : s.startLoop.cabac = s.cabac := rfl
@[simp] theorem startLoop_tasks : s.startLoop.tasks = .loopTop :: s.tasks := rfl
end

/-- In a slice whose loop has not begun `E_BITS` is latched without a macroblock, and the slice ends (60_exceptions.md R813, R821). -/
theorem raise_bits_csr {s : State} (h : s.csr.fsm = .headerParsed) :
    (s.raise .bits).csr =
      { s.csr.latched 1 s.au.nalIndex 0xFFFF s.br.cursor with sliceErr := true, fsm := .complete } := by
  have hslice : s.inSlice = true := by rw [State.inSlice, h]
  have hmb : s.errMb = 0xFFFF := by simp [State.errMb, h]
  have habort : s.raise .bits = (s.record .bits).sliceAbort := if_pos hslice
  rw [habort, sliceAbort_csr, record_eq_latched, hmb]
  rfl

section
variable {s : State}

/-- Without CABAC nothing is read. -/
theorem initSlice_cavlc (hc : s.hdr.pps.cabac = false) : s.initSlice = (s.startDs.setPs s.ps).startLoop := if_neg (by simp [hc])

theorem initSlice_cabac (hc : s.hdr.pps.cabac = true) (hfit : s.br.aligned + 9 ≤ 8 * s.br.rbsp.length) :
    s.initSlice = (s.startDs.setPs (s.ps.started s.hdr)).startLoop := by
  have hread : startCabac s.hdr s.startDs.ps = _ := startCabac_ok hfit
  rw [State.initSlice, if_pos hc, parse_ok _ _ _ _ _ hread, startDs_ps]

/-- The state in which the engine's first bits are missing. -/
def State.atEngine (s : State) : State :=
  (s.startDs.setBr (s.ps.aligned s.hdr).br).setCabac (s.ps.aligned s.hdr).cabac

theorem initSlice_tooShort (hc : s.hdr.pps.cabac = true) (hfit : s.br.aligned ≤ 8 * s.br.rbsp.length)
    (hend : s.br.aligned + 9 > 8 * s.br.rbsp.length) : s.initSlice = s.atEngine.raise .bits := by
  have hread : startCabac s.hdr s.startDs.ps = _ := startCabac_error hfit hend
  rw [State.initSlice, if_pos hc, parse_error _ _ _ _ _ hread, startDs_ps]
  rfl

@[simp] theorem atEngine_csr : s.atEngine.csr = s.csr := rfl
@[simp] theorem atEngine_fs : s.atEngine.fs = s.fs := rfl
@[simp] theorem atEngine_mem : s.atEngine.mem = s.mem := rfl
theorem atEngine_nalIndex : s.atEngine.au.nalIndex = s.au.nalIndex := rfl
theorem atEngine_cursor : s.atEngine.br.cursor = s.br.aligned := rfl

end

/-- The deblocker's record of the current frame has one slice more. -/
theorem startDs_dbk {s : State} {h : Nat} {d : Dbk} (hcur : s.au.curFrame = some h) (hd : s.dbk[h]? = some d) :
    s.startDs.dbk[h]? = some { d with slices := d.slices ++ [dbkSliceOf s.au.sliceCount s.hdr] } := by
  have hthis : s.cur = h := by rw [State.cur, hcur, Option.getD_some]
  change (s.dbk.modify s.cur _)[h]? = _
  rw [hthis, List.getElem?_modify_eq, hd]
  rfl

/-- Settles O30, by the entropy coding and, with CABAC, by whether the RBSP holds the engine's first bits. -/
theorem sliceStarts : Obligations.SliceStarts := by
  intro s ts hdue qp started start byte initType pre
  have hstep : step s = .next (s.taken ts).initSlice := step_due hdue
  have hstarted (p : Ps) : started ((s.taken ts).startDs.setPs p).startLoop := by
    refine ⟨rfl, rfl, rfl, rfl, rfl, rfl, rfl, rfl, rfl, ?csr, ?tasks, ?sl, ?fs, ?mem, fun h d hcur hd => ?dbk⟩
    case dbk =>
      rw [startLoop_dbk, setPs_dbk]
      exact startDs_dbk (s := s.taken ts) hcur hd
    all_goals simp [State.taken]
  refine ⟨fun hc => ?cavlc, fun hc hfit => ?cabac, fun hc hcur hend hfsm => ?tooShort⟩
  case cavlc =>
    rw [hstep, initSlice_cavlc (s := s.taken ts) hc]
    refine ⟨_, rfl, hstarted _, ?_⟩
    rw [startLoop_br, startLoop_cabac, setPs_br, setPs_cabac]
    exact ⟨rfl, rfl⟩
  case cabac =>
    rw [hstep, initSlice_cabac (s := s.taken ts) hc hfit]
    refine ⟨_, rfl, hstarted _, ?_⟩
    rw [startLoop_br, startLoop_cabac, setPs_br, setPs_cabac]
    refine ⟨rfl, rfl, started_offset (p := s.ps) hfit, rfl, initContexts_length _ _, fun i hi => ?_⟩
    refine (initContexts_getElem? _ hi).trans ?_
    rw [initCtx_eq]
    rfl
  case tooShort =>
    have haligned : start ≤ 8 * s.br.rbsp.length := by omega
    have hslice : (s.taken ts).atEngine.inSlice = true := by simp [State.inSlice, State.taken, hfsm]
    have hframe := raise_frame (s.taken ts).atEngine .bits
    obtain ⟨-, hsl, -⟩ := raise_inSlice _ .bits hslice
    rw [hstep, initSlice_tooShort (s := s.taken ts) hc haligned hend]
    refine ⟨_, rfl, ?latched, ?left, hsl, hframe.fs.trans ?sameFs, hframe.mem.trans ?sameMem⟩
    case latched =>
      rw [raise_bits_csr (by simpa [State.taken] using hfsm), atEngine_csr, atEngine_nalIndex, atEngine_cursor]
      rfl
    case left => rw [raise_tasks, atEngine_csr]; rfl
    all_goals simp [State.taken]

end Sys2Proof.Machine
end

section
/-! PROOFS. The QP of a macroblock and the skipped macroblocks (43_slice_fsm.md R372, R378, R379). -/

namespace Sys2Proof.Machine

/-! ## The QP update (R378) -/

theorem updQp_range (s : State) (d : Int) : 0 ≤ (s.updQp d).ds.qpY ∧ (s.updQp d).ds.qpY ≤ 51 := by
  rw [updQp_ds]
  dsimp only
  omega

/-- The write-back comes last of a macroblock's work. -/
theorem decodeTasks_writeBack (m : MbRec) : ∃ ks, decodeTasks m = ks ++ [.writeBack] := ⟨_, rfl⟩

/-- Settles O43, by what the rest of a macroblock layer does once it is read. -/
theorem qpUpdate : Obligations.QpUpdate := by
  intro s ts p hdue hread
  have hrest : (s.taken ts).mbRest =
      (((s.taken ts).setPs p).updQp p.mb.mbQpDelta).push (decodeTasks p.mb) := parse_ok (s.taken ts) _ _ () p hread
  obtain ⟨hlow, hhigh⟩ := updQp_range ((s.taken ts).setPs p) p.mb.mbQpDelta
  obtain ⟨ks, hks⟩ := decodeTasks_writeBack p.mb
  refine ⟨_, (step_due hdue).trans (congrArg Host.Outcome.next hrest), ?ds, hlow, hhigh, ?_, ?_, ?_, ?_, ?_, ?_, ks, ?tasks⟩
  case tasks => rw [push_tasks, hks]; rfl
  all_goals simp [State.taken]

/-! ## Skipped macroblocks (R372) -/

/-- A skipped macroblock has its type, no residual and QP difference 0, and its decoder's work is next. -/
theorem startSkip_eq (s : State) (t : MbType) :
    s.startSkip t =
      (((s.setMb { s.mb with mbType := t }).setWk { s.wk with cur := MbInfo.ofType t, subIdx := 0 }).setDs
        { s.ds with qpY := s.ds.qpY % 52, qpYPrev := s.ds.qpY, prevMbQpDeltaNonZero := false }).push
        (decodeTasks { s.mb with mbType := t }) := by
  have hqp : (s.ds.qpY + 0) % 52 = s.ds.qpY % 52 := by rw [Int.add_zero]
  rw [← hqp]
  rfl

/-- The work of an inter macroblock with a 4x4 transform. -/
theorem decodeTasks_skip {m : MbRec} {n : Nat} (htype : m.mbType = .pSkip ∧ n = 1 ∨ m.mbType = .bSkip ∧ n = 16)
    (h8 : m.transform8x8 = false) :
    decodeTasks m = (List.range n).map .part ++ (List.range 16).map .luma4x4 ++
      (chromaTasks 1 ++ chromaTasks 2 ++ [.writeBack]) := by
  rcases htype with ⟨ht, rfl⟩ | ⟨ht, rfl⟩ <;> simp [decodeTasks, interTasks, ht, h8, partsOf, directParts, lumaTasks]

/-- Settles O40: both types have the facts of a macroblock without residual, and their own partitions. -/
theorem skippedMacroblocks : Obligations.SkippedMacroblocks := by
  intro i ty n s hi
  have htype : ty = .pSkip ∧ n = 1 ∨ ty = .bSkip ∧ n = 16 := hi.imp And.right And.right
  have hexec : exec i s = .next (s.startSkip ty) := by rcases hi with ⟨rfl, rfl, -⟩ | ⟨rfl, rfl, -⟩ <;> rfl
  rw [hexec, startSkip_eq]
  refine ⟨_, rfl, rfl, rfl, ?_, ?_, ?_, ?_, ?_, ?_, ?_, ?_, rfl, ?_, fun h0 h51 => ?qp, fun h8 => ?tasks⟩
  case qp => exact Int.emod_eq_of_lt h0 (by omega)
  case tasks => rw [push_tasks, decodeTasks_skip (m := { s.mb with mbType := ty }) htype h8]; rfl
  all_goals rcases htype with ⟨rfl, -⟩ | ⟨rfl, -⟩ <;> rfl

end Sys2Proof.Machine
end

section
/-! PROOFS. The end of an access unit (43_slice_fsm.md R390): the output of its frame, what a failed one leaves, and the marking of its picture up to the sliding window (49_reflist.md R770-R772, R780). -/

namespace Sys2Proof.Machine

/-! ## The output of the frame (R390 steps 4-5) -/

section
variable (s : State) (h : Nat)
@[simp] theorem outputFrame_csr : (s.outputFrame h).csr =
    { s.csr with outFrame := BitVec.ofNat 32 (h % 256), outHandle := h, outPoc := BitVec.ofInt 32 (s.frame h).poc,
                 frameValid := true } := rfl
@[simp] theorem outputFrame_fs :
    (s.outputFrame h).fs = freeUnused (s.updFrame h fun f => { f with held := true }).fs := rfl
@[simp] theorem outputFrame_dbk : (s.outputFrame h).dbk = s.dbk.modify h fun d => { d with handedOver := true } := rfl
@[simp] theorem outputFrame_tasks : (s.outputFrame h).tasks = s.tasks := rfl
@[simp] theorem outputFrame_mem : (s.outputFrame h).mem = s.mem := rfl
@[simp] theorem outputFrame_sps : (s.outputFrame h).sps = s.sps := rfl
@[simp] theorem outputFrame_pps : (s.outputFrame h).pps = s.pps := rfl
@[simp] theorem outputFrame_maxLongTermFrameIdx : (s.outputFrame h).maxLongTermFrameIdx = s.maxLongTermFrameIdx := rfl
@[simp] theorem clearAu_csr : s.clearAu.csr = { s.csr with fsm := .idle, busy := false } := rfl
@[simp] theorem clearAu_au : s.clearAu.au =
    { s.au with curFrame := none, failed := false, sliceCount := 0, nalIndex := 0, firstSlice := none, ended := true } := rfl
@[simp] theorem clearAu_fs : s.clearAu.fs = s.fs := rfl
@[simp] theorem clearAu_dbk : s.clearAu.dbk = s.dbk := rfl
@[simp] theorem clearAu_tasks : s.clearAu.tasks = s.tasks := rfl
@[simp] theorem clearAu_mem : s.clearAu.mem = s.mem := rfl
@[simp] theorem clearAu_sps : s.clearAu.sps = s.sps := rfl
@[simp] theorem clearAu_pps : s.clearAu.pps = s.pps := rfl
@[simp] theorem clearAu_maxLongTermFrameIdx : s.clearAu.maxLongTermFrameIdx = s.maxLongTermFrameIdx := rfl
end

theorem auEndFinish_output {s : State} {h : Nat} (hfail : s.au.failed = false) (hcur : s.au.curFrame = some h) :
    s.auEndFinish = (s.outputFrame h).clearAu := by
  simp [State.auEndFinish, hcur, hfail]

/-- A frame that is unmarked and not held is free after the output. -/
def Frame.freed (f : Frame) : Frame := if f.mark = .unused ∧ f.held = false then { f with inUse := false } else f

theorem getD_freeUnused (fs : List Frame) (g : Nat) :
    (freeUnused fs).getD g Frame.free = (fs.getD g Frame.free).freed := by
  have hmap : freeUnused fs = fs.map Frame.freed := by simp [freeUnused, Frame.freed]
  have hfree : Frame.free = Frame.free.freed := by decide
  rw [hmap, List.getD_eq_getElem?_getD, List.getD_eq_getElem?_getD, List.getElem?_map]
  cases fs[g]? with
  | none => exact hfree
  | some f => rfl

/-- Settles O19, by the registers and the frames after the output. -/
theorem auEndOutputsTheFrame : Obligations.AuEndOutputsTheFrame := by
  intro s ts h hdue hfail hcur hlt
  have hout : (s.taken ts).auEndFinish = ((s.taken ts).outputFrame h).clearAu := auEndFinish_output hfail hcur
  have hframe (g : Nat) : (((s.taken ts).outputFrame h).clearAu).frame g =
      (if g = h then { s.frame h with held := true } else s.frame g).freed := by
    have hheld := frame_updFrame (s.taken ts) h g fun f => { f with held := true }
    rw [State.frame, clearAu_fs, outputFrame_fs, getD_freeUnused]
    refine congrArg Frame.freed (hheld.trans ?_)
    by_cases hg : g = h
    · rw [if_pos ⟨hg, hlt⟩, if_pos hg]; rfl
    · rw [if_neg fun hand => hg hand.1, if_neg hg]; rfl
  refine ⟨_, (step_due hdue).trans (congrArg Host.Outcome.next hout), ?csr, ?own, fun g hg => ?other, fun d hd => ?dbk,
    rfl, rfl, rfl, rfl, rfl, rfl, ?_, ?_, ?_, ?_, ?_⟩
  case csr => rw [clearAu_csr, outputFrame_csr]; rfl
  case own => rw [hframe, if_pos rfl]; exact if_neg (by simp)
  case other => rw [hframe, if_neg hg]; rfl
  case dbk =>
    rw [clearAu_dbk, outputFrame_dbk, List.getElem?_modify_eq]
    exact congrArg (Option.map _) hd
  all_goals simp [State.taken]

/-! ## What a failed access unit leaves (60_exceptions.md R824) -/

section
variable (s : State)

@[simp] theorem restorePools_au : s.restorePools.au = s.au := by unfold State.restorePools; split <;> rfl
@[simp] theorem restorePools_csr : s.restorePools.csr = s.csr := by unfold State.restorePools; split <;> rfl
@[simp] theorem restorePools_tasks : s.restorePools.tasks = s.tasks := by unfold State.restorePools; split <;> rfl
@[simp] theorem restorePools_length : s.restorePools.fs.length = s.fs.length := by
  unfold State.restorePools
  split
  · rfl
  · exact List.length_mapIdx

variable {s}

theorem restorePools_none (h : s.savedPools = none) : s.restorePools = s := by rw [State.restorePools, h]

theorem restorePools_maxLong {p : Pools} (h : s.savedPools = some p) : s.restorePools.maxLongTermFrameIdx = p.maxLong := by
  rw [State.restorePools, h]
  rfl

end

/-- AU_END as it begins: busy, with its end queued. -/
def State.auEndBegun (s : State) : State := s.setBusy.setTasks [.auEndFinish]

/-- AU_END of a failed access unit with `AU_ERR` set. -/
def State.auErrSet (s : State) : State := s.auEndBegun.setCsr { s.auEndBegun.csr with auErr := true }

/-- And then with the pools as they were before an IDR picture emptied them. -/
def State.auFailed (s : State) : State := s.auErrSet.restorePools

section
variable (s : State)
@[simp] theorem auEndBegun_busy : s.auEndBegun.csr.busy = true := rfl
@[simp] theorem auEndBegun_au : s.auEndBegun.au = s.au := rfl
@[simp] theorem auEndBegun_fs : s.auEndBegun.fs = s.fs := rfl
@[simp] theorem auEndBegun_tasks : s.auEndBegun.tasks = [.auEndFinish] := rfl
@[simp] theorem auFailed_au : s.auFailed.au = s.au := by simp [State.auFailed, State.auErrSet]
@[simp] theorem auFailed_busy : s.auFailed.csr.busy = true := by simp [State.auFailed, State.auErrSet]
@[simp] theorem auFailed_auErr : s.auFailed.csr.auErr = true := by simp [State.auFailed, State.auErrSet]
@[simp] theorem auFailed_tasks : s.auFailed.tasks = [.auEndFinish] := by simp [State.auFailed, State.auErrSet]
@[simp] theorem auFailed_length : s.auFailed.fs.length = s.fs.length := by simp [State.auFailed, State.auErrSet]

variable {s}

theorem auFailed_none (h : s.savedPools = none) : s.auFailed = s.auErrSet := restorePools_none h

theorem auFailed_maxLong_saved {p : Pools} (h : s.savedPools = some p) : s.auFailed.maxLongTermFrameIdx = p.maxLong :=
  restorePools_maxLong h

theorem auFailed_frame_saved {p : Pools} (h : s.savedPools = some p) {g : Nat} (hg : g < s.fs.length) :
    s.auFailed.frame g = (s.frame g).remark (p.marks.getD g .unused) := by
  have hsaved : s.auErrSet.savedPools = some p := h
  have hrestored := frame_restorePools s.auErrSet g hg
  rw [hsaved] at hrestored
  exact hrestored

theorem startAuEnd_failed (h : s.au.failed = true) :
    s.startAuEnd =
      match s.au.curFrame with
      | none => s.auFailed
      | some h => s.auFailed.updFrame h fun f => { f with inUse := false } := by
  have hfail : s.auEndBegun.au.failed = true := h
  have hau := auFailed_au s
  unfold State.startAuEnd
  exact (if_pos hfail).trans (by rw [← hau]; rfl)

end

/-! ## What marking leaves alone -/

/-- Marking changes neither the access unit nor BUSY, the work left or `MaxLongTermFrameIdx`, as long as it only unmarks frames, changes the current one and records errors. -/
structure MarkingFrame (s t : State) : Prop where
  au : t.au = s.au
  busy : t.csr.busy = s.csr.busy
  tasks : t.tasks = s.tasks
  maxLong : t.maxLongTermFrameIdx = s.maxLongTermFrameIdx

namespace MarkingFrame

theorem refl (s : State) : MarkingFrame s s := ⟨rfl, rfl, rfl, rfl⟩

section
variable {s t : State} (m : MarkingFrame s t)
include m

theorem trans {u : State} (n : MarkingFrame t u) : MarkingFrame s u :=
  ⟨n.au.trans m.au, n.busy.trans m.busy, n.tasks.trans m.tasks, n.maxLong.trans m.maxLong⟩

theorem updFrame (h : Nat) (f : Frame → Frame) : MarkingFrame s (t.updFrame h f) := m.trans ⟨rfl, rfl, rfl, rfl⟩

theorem markError : MarkingFrame s t.markError := by
  refine m.trans ?_
  rw [State.markError, recordAt_eq]
  refine ⟨rfl, ?_, rfl, rfl⟩
  rw [setCsr_csr]
  split <;> rfl

end

theorem slidingWindow {s : State} (n : Nat) : ∀ {t : State}, MarkingFrame s t → MarkingFrame s (State.slidingWindow n t) := by
  induction n with
  | zero => exact id
  | succ n ih =>
    intro t m
    unfold State.slidingWindow
    split
    · split
      · exact ih (m.updFrame _ _)
      · exact m
    · exact m

theorem shrinkPools {s : State} (n : Nat) : ∀ {t : State}, MarkingFrame s t → MarkingFrame s (State.shrinkPools n t) := by
  induction n with
  | zero => exact id
  | succ n ih =>
    intro t m
    unfold State.shrinkPools
    split
    · split
      · exact ih (m.updFrame _ _)
      · exact m
    · exact m

section
variable {s t : State} (m : MarkingFrame s t)
include m

theorem boundPools : MarkingFrame s t.boundPools := by
  unfold State.boundPools
  split
  · exact (shrinkPools _ m).markError
  · exact m

theorem finishMarking : MarkingFrame s t.finishMarking := by
  have hshort : MarkingFrame s (if t.wk.curLong then t else t.updCur fun f => { f with mark := .shortTerm }) := by
    split
    · exact m
    · exact m.updFrame _ _
  exact (hshort.updFrame _ _).boundPools

end

end MarkingFrame

/-! ## How many frames are marked -/

/-- The number of marked frames. -/
def markedCount (fs : List Frame) : Nat := (fs.filter fun f => decide (f.mark ≠ .unused)).length

theorem marked_length (s : State) : s.marked.length = markedCount s.fs := by
  have hfs : s.fs = (List.range s.fs.length).map s.frame := by
    refine List.ext_getElem (by simp) fun i h _ => ?_
    rw [List.getElem_map, List.getElem_range, frame_eq_getElem h]
  have hcount : markedCount ((List.range s.fs.length).map s.frame) = s.marked.length := by
    rw [markedCount, List.filter_map, List.length_map]
    rfl
  rw [← hcount, ← hfs]

theorem markedCount_le_length (fs : List Frame) : markedCount fs ≤ fs.length := List.length_filter_le _ _

/-- The count after a change of one frame. -/
theorem markedCount_modify (f : Frame → Frame) : ∀ (fs : List Frame) (h : Nat), h < fs.length →
    markedCount (fs.modify h f) + (if (fs.getD h Frame.free).mark = .unused then 0 else 1) =
      markedCount fs + (if (f (fs.getD h Frame.free)).mark = .unused then 0 else 1)
  | [], _, hlt => absurd hlt (Nat.not_lt_zero _)
  | g :: fs, 0, _ => by
    simp only [markedCount, List.modify_zero_cons, List.filter_cons, List.getD_cons_zero]
    split <;> split <;> simp_all
  | g :: fs, h + 1, hlt => by
    have ih := markedCount_modify f fs h (Nat.lt_of_succ_lt_succ hlt)
    simp only [markedCount, List.modify_succ_cons, List.filter_cons, List.getD_cons_succ] at ih ⊢
    split
    · simp only [List.length_cons]
      omega
    · exact ih

/-! ## Sorting by a key (49_reflist.md R786) -/

section
variable (key : Nat → Int)

theorem insertBy_perm (h : Nat) (l : List Nat) : (insertBy key h l).Perm (h :: l) := by
  induction l with
  | nil => exact .refl _
  | cons g r ih =>
    unfold insertBy
    split
    · exact .refl _
    · exact (ih.cons g).trans (.swap h g r)

/-- Insertion keeps a list in ascending order of the key. -/
theorem insertBy_sorted (h : Nat) {l : List Nat} (hl : l.Pairwise fun a b => key a ≤ key b) :
    (insertBy key h l).Pairwise fun a b => key a ≤ key b := by
  induction l with
  | nil => exact List.pairwise_singleton _ _
  | cons g r ih =>
    obtain ⟨hg, hr⟩ := List.pairwise_cons.1 hl
    unfold insertBy
    split
    · rename_i hlt
      refine List.pairwise_cons.2 ⟨fun b hb => ?_, hl⟩
      rcases List.mem_cons.1 hb with rfl | hb
      · exact Int.le_of_lt hlt
      · exact Int.le_trans (Int.le_of_lt hlt) (hg b hb)
    · rename_i hge
      refine List.pairwise_cons.2 ⟨fun b hb => ?_, ih hr⟩
      rcases List.mem_cons.1 ((insertBy_perm key h r).mem_iff.1 hb) with rfl | hb
      · exact Int.not_lt.1 hge
      · exact hg b hb

theorem sortBy_perm (hs : List Nat) : (sortBy key hs).Perm hs := by
  have hfold : ∀ acc, (hs.foldl (fun acc h => insertBy key h acc) acc).Perm (hs ++ acc) := by
    induction hs with
    | nil => exact fun acc => .refl acc
    | cons h hs ih =>
      exact fun acc => (ih _).trans (((insertBy_perm key h acc).append_left hs).trans List.perm_middle)
  exact (hfold []).trans (.of_eq (List.append_nil hs))

theorem sortBy_sorted (hs : List Nat) : (sortBy key hs).Pairwise fun a b => key a ≤ key b := by
  have hfold : ∀ acc, acc.Pairwise (fun a b => key a ≤ key b) →
      (hs.foldl (fun acc h => insertBy key h acc) acc).Pairwise fun a b => key a ≤ key b := by
    induction hs with
    | nil => exact fun _ hacc => hacc
    | cons h hs ih => exact fun acc hacc => ih _ (insertBy_sorted key h hacc)
  exact hfold [] .nil

end

/-! ## The oldest short-term frame (49_reflist.md R772) -/

/-- A short-term frame other than the current one. -/
def State.OtherShort (s : State) (g : Nat) : Prop := s.au.curFrame ≠ some g ∧ (s.frame g).mark = .shortTerm

theorem lt_length_of_marked {s : State} {g : Nat} (h : (s.frame g).mark ≠ .unused) : g < s.fs.length :=
  Nat.lt_of_not_le fun hle => h (by rw [frame_eq_free hle]; rfl)

theorem State.OtherShort.lt_length {s : State} {g : Nat} (h : s.OtherShort g) : g < s.fs.length :=
  lt_length_of_marked (by rw [h.2]; exact nofun)

/-- The short-term frames other than the current one, in ascending order of `FrameNumWrap`. -/
theorem mem_sortedShort {s : State} {g : Nat} :
    g ∈ sortBy s.frameNumWrap ((handlesWith s.fs .shortTerm).filter fun h => decide (s.au.curFrame ≠ some h)) ↔ s.OtherShort g := by
  rw [(sortBy_perm _ _).mem_iff]
  simp only [handlesWith, List.mem_filter, List.mem_range, decide_eq_true_eq]
  exact ⟨fun ⟨⟨_, hm⟩, hc⟩ => ⟨hc, hm⟩, fun ho => ⟨⟨ho.lt_length, ho.2⟩, ho.1⟩⟩

theorem oldestShort_eq_none {s : State} : s.oldestShort = none ↔ ∀ g, ¬ s.OtherShort g := by
  rw [State.oldestShort, List.head?_eq_none_iff, List.eq_nil_iff_forall_not_mem]
  exact forall_congr' fun g => not_congr mem_sortedShort

theorem oldestShort_spec {s : State} {o : Nat} (h : s.oldestShort = some o) :
    s.OtherShort o ∧ ∀ k, s.OtherShort k → s.frameNumWrap o ≤ s.frameNumWrap k := by
  obtain ⟨rest, hsorted⟩ := List.head?_eq_some_iff.1 h
  have hmem {g : Nat} : g ∈ o :: rest ↔ s.OtherShort g := hsorted ▸ mem_sortedShort
  have hord := sortBy_sorted s.frameNumWrap ((handlesWith s.fs .shortTerm).filter fun h => decide (s.au.curFrame ≠ some h))
  rw [hsorted] at hord
  refine ⟨hmem.1 List.mem_cons_self, fun k hk => ?_⟩
  rcases List.mem_cons.1 (hmem.2 hk) with rfl | hk
  · exact Int.le_refl _
  · exact (List.pairwise_cons.1 hord).1 k hk

/-! ## One frame leaves -/

section
variable {s : State} {o : Nat}

theorem markedCount_unmark (ho : s.OtherShort o) : markedCount (s.unmark o).fs + 1 = markedCount s.fs := by
  have hmark : (s.fs.getD o Frame.free).mark = .shortTerm := ho.2
  have hcount := markedCount_modify (fun f => { f with
    mark := .unused
    inUse := if !f.held && decide (s.au.curFrame ≠ some o) then false else f.inUse }) s.fs o ho.lt_length
  rw [hmark] at hcount
  exact hcount

theorem frameNumWrap_unmark (s : State) (o g : Nat) : (s.unmark o).frameNumWrap g = s.frameNumWrap g := by
  have hnum : ((s.unmark o).frame g).frameNum = (s.frame g).frameNum := by
    rw [frame_unmark]
    split
    · rename_i hg
      rw [hg]
      rfl
    · rfl
  have hpic (a b : Nat) {f f' : Frame} (h : f'.frameNum = f.frameNum) : picNum a b f' = picNum a b f := by rw [picNum, picNum, h]
  exact hpic _ _ hnum

/-- The other short-term frames after one lost its mark. -/
theorem otherShort_unmark {g : Nat} : (s.unmark o).OtherShort g ↔ s.OtherShort g ∧ g ≠ o := by
  rw [State.OtherShort, frame_unmark]
  by_cases hg : g = o
  · simp [hg, State.unmarkedFrame]
  · rw [if_neg hg]
    exact ⟨fun h => ⟨h, hg⟩, And.left⟩

end

/-! ## The sliding window (R772) -/

theorem maxRefs_pos (s : State) : 0 < s.maxRefs := Nat.lt_of_lt_of_le Nat.zero_lt_one (Nat.le_max_right _ _)

/-- What the sliding window does from `s` to `t`. -/
structure Slid (s t : State) : Prop where
  frames : ∃ fs, fs.length = s.fs.length ∧ t = s.setFs fs
  kept : ∀ g, t.frame g = s.frame g ∨ s.OtherShort g ∧ t.frame g = s.unmarkedFrame g
  /-- A frame leaves only while the marked ones reach the bound, -/
  count : t ≠ s → markedCount t.fs + 1 ≥ s.maxRefs
  /-- and before every one that stays with a greater `FrameNumWrap`. -/
  oldest : ∀ g k, s.OtherShort g → ¬ t.OtherShort g → t.OtherShort k → s.frameNumWrap g ≤ s.frameNumWrap k

theorem Slid.refl (s : State) : Slid s s :=
  ⟨⟨s.fs, rfl, rfl⟩, fun _ => .inl rfl, fun h => absurd rfl h, fun _ _ hg hng => absurd hg hng⟩

section
variable {s t : State} (d : Slid s t)
include d

theorem Slid.au : t.au = s.au := by
  obtain ⟨fs, -, rfl⟩ := d.frames
  rfl

theorem Slid.otherShort {g : Nat} (hg : t.OtherShort g) : s.OtherShort g := by
  refine ⟨d.au ▸ hg.1, ?_⟩
  rcases d.kept g with heq | ⟨hs, -⟩
  · exact heq ▸ hg.2
  · exact hs.2

/-- A window that another frame left before. -/
theorem Slid.after_unmark {r : State} {o : Nat} (hs : s = r.unmark o) (ho : r.OtherShort o)
    (hmin : ∀ k, r.OtherShort k → r.frameNumWrap o ≤ r.frameNumWrap k) (hfull : markedCount r.fs ≥ r.maxRefs) : Slid r t := by
  subst hs
  have hleft := markedCount_unmark ho
  refine ⟨?frames, fun g => ?kept, fun _ => ?count, fun g k hg hng hk => ?oldest⟩
  case frames =>
    obtain ⟨fs, hlen, rfl⟩ := d.frames
    exact ⟨fs, hlen.trans (updFrame_length ..), rfl⟩
  case kept =>
    have hsame (hg : g ≠ o) : (r.unmark o).frame g = r.frame g := by rw [frame_unmark, if_neg hg]
    rcases d.kept g with heq | ⟨hg, heq⟩
    · by_cases hgo : g = o
      · subst hgo
        exact .inr ⟨ho, by rw [heq, frame_unmark, if_pos rfl]⟩
      · exact .inl (heq.trans (hsame hgo))
    · obtain ⟨hgr, hgo⟩ := otherShort_unmark.1 hg
      refine .inr ⟨hgr, heq.trans ?_⟩
      rw [State.unmarkedFrame, hsame hgo]
      rfl
  case count =>
    by_cases ht : t = r.unmark o
    · rw [ht]
      omega
    · exact d.count ht
  case oldest =>
    obtain ⟨hkr, -⟩ := otherShort_unmark.1 (d.otherShort hk)
    by_cases hgo : g = o
    · exact hgo ▸ hmin k hkr
    · have hold := d.oldest g k (otherShort_unmark.2 ⟨hg, hgo⟩) hng hk
      rwa [frameNumWrap_unmark, frameNumWrap_unmark] at hold

end

theorem slidingWindow_succ (n : Nat) (s : State) :
    (markedCount s.fs < s.maxRefs ∧ State.slidingWindow (n + 1) s = s) ∨
    (s.oldestShort = none ∧ State.slidingWindow (n + 1) s = s) ∨
    ∃ o, markedCount s.fs ≥ s.maxRefs ∧ s.oldestShort = some o ∧
      State.slidingWindow (n + 1) s = State.slidingWindow n (s.unmark o) := by
  rw [State.slidingWindow, marked_length]
  split
  · rename_i hfull
    cases hold : s.oldestShort with
    | none => exact .inr (.inl ⟨rfl, rfl⟩)
    | some o => exact .inr (.inr ⟨o, hfull, rfl, rfl⟩)
  · rename_i hroom
    exact .inl ⟨Nat.not_le.1 hroom, rfl⟩

theorem slidingWindow_slid (n : Nat) : ∀ s, Slid s (State.slidingWindow n s) := by
  induction n with
  | zero => exact Slid.refl
  | succ n ih =>
    intro s
    rcases slidingWindow_succ n s with ⟨-, heq⟩ | ⟨-, heq⟩ | ⟨o, hfull, hold, heq⟩
    · rw [heq]; exact Slid.refl s
    · rw [heq]; exact Slid.refl s
    · obtain ⟨ho, hmin⟩ := oldestShort_spec hold
      rw [heq]
      exact (ih (s.unmark o)).after_unmark rfl ho hmin hfull

/-- With fuel for the marked frames the window ends below the bound or with no frame left to leave. -/
theorem slidingWindow_ends (n : Nat) : ∀ s, markedCount s.fs ≤ n →
    markedCount (State.slidingWindow n s).fs < s.maxRefs ∨ ∀ g, ¬ (State.slidingWindow n s).OtherShort g := by
  induction n with
  | zero => exact fun s hle => .inl (Nat.lt_of_le_of_lt hle (maxRefs_pos s))
  | succ n ih =>
    intro s hle
    rcases slidingWindow_succ n s with ⟨hroom, heq⟩ | ⟨hnone, heq⟩ | ⟨o, hfull, hold, heq⟩
    · rw [heq]; exact .inl hroom
    · rw [heq]; exact .inr (oldestShort_eq_none.1 hnone)
    · have hleft := markedCount_unmark (oldestShort_spec hold).1
      rw [heq]
      exact ih (s.unmark o) (by omega)

/-! ## The current picture after the window (R771 step 2, R778, R780, R781) -/

/-- The current frame marked short-term; operation 5 has changed its numbers as well. -/
def Frame.markedShort (f : Frame) : Frame :=
  if f.hadMmco5 then
    { f with mark := .shortTerm
             topPoc := f.topPoc - min f.topPoc f.bottomPoc
             bottomPoc := f.bottomPoc - min f.topPoc f.bottomPoc
             poc := 0
             frameNum := 0 }
  else { f with mark := .shortTerm }

theorem markedShort_mark (f : Frame) : f.markedShort.mark = .shortTerm := by
  unfold Frame.markedShort
  split <;> rfl

/-- The marking of the current frame, before the bound of the pools. -/
def State.markShort (s : State) : State := (s.updCur fun f => { f with mark := .shortTerm }).mmco5Finish

theorem markShort_fs (s : State) : s.markShort.fs = s.fs.modify s.cur Frame.markedShort := by
  change (s.fs.modify s.cur _).modify s.cur _ = _
  rw [List.modify_modify_eq]
  rfl

theorem finishMarking_short {s : State} (h : s.wk.curLong = false) : s.finishMarking = s.markShort.boundPools := by
  rw [State.finishMarking, h]
  rfl

/-- Pools within the bound, and pools without a frame that could leave, stay as they are. -/
theorem boundPools_fs {s : State} (h : markedCount s.fs ≤ s.maxRefs ∨ ∀ g, ¬ s.OtherShort g) : s.boundPools.fs = s.fs := by
  unfold State.boundPools
  split
  · rename_i hover
    rw [marked_length] at hover
    have hnone : s.oldestShort = none := oldestShort_eq_none.2 (h.resolve_left (Nat.not_le.2 hover))
    have hstay : ∀ n, State.shrinkPools n s = s := by
      intro n
      cases n with
      | zero => rfl
      | succ n =>
        rw [State.shrinkPools, hnone]
        exact ite_self s
    rw [State.markError, recordAt_eq, hstay]
    rfl
  · rfl

theorem frame_congr {s t : State} (h : t.fs = s.fs) (g : Nat) : t.frame g = s.frame g := by rw [State.frame, State.frame, h]

theorem maxRefs_congr {s t : State} (h : t.au = s.au) : t.maxRefs = s.maxRefs := by
  rw [State.maxRefs, State.maxRefs, State.first, State.first, h]

theorem Slid.length {s t : State} (d : Slid s t) : t.fs.length = s.fs.length := by
  obtain ⟨fs, hlen, rfl⟩ := d.frames
  exact hlen

theorem Slid.curLong {s t : State} (d : Slid s t) : t.wk.curLong = s.wk.curLong := by
  obtain ⟨fs, -, rfl⟩ := d.frames
  rfl

/-- One frame more is marked, unless it was before. -/
theorem markedCount_markedShort {s : State} {h : Nat} (hlt : h < s.fs.length) :
    markedCount (s.updFrame h Frame.markedShort).fs + (if (s.frame h).mark = .unused then 0 else 1) = markedCount s.fs + 1 := by
  have hcount := markedCount_modify Frame.markedShort s.fs h hlt
  rw [markedShort_mark] at hcount
  exact hcount

/-- The marking of a picture without marking operations. -/
def State.slidMarking (s : State) : State := (State.slidingWindow s.fs.length s).finishMarking

theorem slidMarking_frame (s : State) : MarkingFrame s s.slidMarking :=
  ((MarkingFrame.refl s).slidingWindow s.fs.length).finishMarking

section
variable {s : State} {h : Nat} (hcur : s.au.curFrame = some h)
include hcur

theorem otherShort_iff {g : Nat} : s.OtherShort g ↔ g ≠ h ∧ (s.frame g).mark = .shortTerm := by
  rw [State.OtherShort, hcur]
  exact and_congr_left' (not_congr ⟨fun e => (Option.some.inj e).symm, fun e => e ▸ rfl⟩)

/-- The current frame stays in the window. -/
theorem Slid.frame_cur {t : State} (d : Slid s t) : t.frame h = s.frame h :=
  (d.kept h).resolve_right fun ⟨ho, _⟩ => ho.1 hcur

variable (hlt : h < s.fs.length) (hlong : s.wk.curLong = false)
include hlt hlong

/-- The window leaves room for the current frame, or nothing that could leave, so the bound of the pools takes no frame. -/
theorem slidMarking_fs :
    s.slidMarking.fs = ((State.slidingWindow s.fs.length s).updFrame h Frame.markedShort).fs := by
  have d := slidingWindow_slid s.fs.length s
  have hends := slidingWindow_ends s.fs.length s (markedCount_le_length _)
  rw [State.slidMarking]
  generalize State.slidingWindow s.fs.length s = w at d hends
  have hcurW : w.cur = h := by rw [State.cur, d.au, hcur, Option.getD_some]
  have hshort : w.markShort.fs = (w.updFrame h Frame.markedShort).fs := by rw [markShort_fs, hcurW]; rfl
  have hau : w.markShort.au = s.au := d.au
  rw [finishMarking_short (d.curLong.trans hlong), boundPools_fs, hshort]
  refine hends.imp (fun hroom => ?_) fun hnone g hg => hnone g ?_
  · have hcount := markedCount_markedShort (d.length ▸ hlt)
    rw [hshort, maxRefs_congr hau]
    omega
  · obtain ⟨hgh, hmark⟩ := (otherShort_iff (hau ▸ hcur)).1 hg
    rw [frame_congr hshort, frame_updFrame, if_neg fun hand => hgh hand.1] at hmark
    exact (otherShort_iff (d.au ▸ hcur)).2 ⟨hgh, hmark⟩

theorem slidMarking_frame_cur : s.slidMarking.frame h = (s.frame h).markedShort := by
  have d := slidingWindow_slid s.fs.length s
  rw [frame_congr (slidMarking_fs hcur hlt hlong), frame_updFrame, if_pos ⟨rfl, Nat.lt_of_lt_of_eq hlt d.length.symm⟩, d.frame_cur hcur]

theorem slidMarking_frame_other {g : Nat} (hg : g ≠ h) :
    s.slidMarking.frame g = (State.slidingWindow s.fs.length s).frame g := by
  rw [frame_congr (slidMarking_fs hcur hlt hlong), frame_updFrame, if_neg fun hand => hg hand.1]

theorem slidMarking_length : s.slidMarking.fs.length = s.fs.length := by
  rw [slidMarking_fs hcur hlt hlong, updFrame_length, (slidingWindow_slid s.fs.length s).length]

theorem slidMarking_count :
    markedCount s.slidMarking.fs + (if (s.frame h).mark = .unused then 0 else 1) =
      markedCount (State.slidingWindow s.fs.length s).fs + 1 := by
  have d := slidingWindow_slid s.fs.length s
  rw [slidMarking_fs hcur hlt hlong, ← d.frame_cur hcur, markedCount_markedShort (Nat.lt_of_lt_of_eq hlt d.length.symm)]

/-- Another frame stays as it is, or is a short-term frame that lost its mark. -/
theorem slidMarking_kept {g : Nat} (hg : g ≠ h) :
    s.slidMarking.frame g = s.frame g ∨ (s.frame g).mark = .shortTerm ∧ s.slidMarking.frame g = s.unmarkedFrame g := by
  rw [slidMarking_frame_other hcur hlt hlong hg]
  exact ((slidingWindow_slid s.fs.length s).kept g).imp_right fun ⟨ho, heq⟩ => ⟨ho.2, heq⟩

/-- The marked frames are within the bound, or no other short-term frame is left. -/
theorem slidMarking_bounded :
    markedCount s.slidMarking.fs ≤ s.maxRefs ∨ ∀ g, g ≠ h → (s.slidMarking.frame g).mark ≠ .shortTerm := by
  have d := slidingWindow_slid s.fs.length s
  have hcount := slidMarking_count hcur hlt hlong
  refine (slidingWindow_ends s.fs.length s (markedCount_le_length _)).imp (fun hroom => by omega) fun hnone g hg hmark => ?_
  rw [slidMarking_frame_other hcur hlt hlong hg] at hmark
  exact hnone g ((otherShort_iff (d.au ▸ hcur)).2 ⟨hg, hmark⟩)

/-- A frame loses its mark only when the bound asks for it, and after those with a smaller `FrameNumWrap`. -/
theorem slidMarking_oldest {g : Nat} (hg : g ≠ h) (hshort : (s.frame g).mark = .shortTerm)
    (hgone : (s.slidMarking.frame g).mark = .unused) :
    markedCount s.slidMarking.fs + (if (s.frame h).mark = .unused then 0 else 1) ≥ s.maxRefs ∧
      ∀ k, k ≠ h → (s.slidMarking.frame k).mark = .shortTerm → s.frameNumWrap g ≤ s.frameNumWrap k := by
  have d := slidingWindow_slid s.fs.length s
  have hother {k : Nat} : (State.slidingWindow s.fs.length s).OtherShort k ↔ k ≠ h ∧ (s.slidMarking.frame k).mark = .shortTerm := by
    rw [otherShort_iff (d.au ▸ hcur)]
    exact and_congr_right fun hk => by rw [slidMarking_frame_other hcur hlt hlong hk]
  have hleft : ¬ (State.slidingWindow s.fs.length s).OtherShort g := fun ho => by
    have hstill := (hother.1 ho).2
    rw [hgone] at hstill
    cases hstill
  have hwas : s.OtherShort g := (otherShort_iff hcur).2 ⟨hg, hshort⟩
  refine ⟨?_, fun k hk hmark => d.oldest g k hwas hleft (hother.2 ⟨hk, hmark⟩)⟩
  rw [slidMarking_count hcur hlt hlong]
  exact d.count fun heq => hleft (heq.symm ▸ hwas)

end

/-! ## AU_END up to the marking (R390 steps 1-4) -/

/-- The state in which the marking of the picture begins. -/
def State.markingBegun (s : State) : State := s.auEndBegun.setWk { s.wk with curLong := false, mmcoLeft := s.first.mmcos }

section
variable {s : State}

theorem startAuEnd_noPicture (hfail : s.au.failed = false) (hcur : s.au.curFrame = none) : s.startAuEnd = s.auEndBegun := by
  have hfail' : s.auEndBegun.au.failed = false := hfail
  have hcur' : s.auEndBegun.au.curFrame = none := hcur
  unfold State.startAuEnd
  change (if s.auEndBegun.au.failed = true then _ else match s.auEndBegun.au.curFrame with | none => s.auEndBegun | some _ => _) = _
  rw [hfail', hcur']
  rfl

end

section
variable {s : State} {h : Nat} (hfail : s.au.failed = false) (hcur : s.au.curFrame = some h)
include hfail hcur

theorem startAuEnd_marking : s.startAuEnd = s.auEndBegun.startMarking := by
  have hfail' : s.auEndBegun.au.failed = false := hfail
  have hcur' : s.auEndBegun.au.curFrame = some h := hcur
  unfold State.startAuEnd
  change (if s.auEndBegun.au.failed = true then _ else match s.auEndBegun.au.curFrame with | none => _ | some _ => s.auEndBegun.startMarking) = _
  rw [hfail', hcur']
  rfl

theorem startAuEnd_nonReference (href : s.first.nalRefIdc = 0) : s.startAuEnd = s.markingBegun :=
  (startAuEnd_marking hfail hcur).trans (if_pos href)

variable (href : s.first.nalRefIdc ≠ 0)
include href

theorem startAuEnd_idr (hidr : s.first.nalType = 5) : s.startAuEnd = s.markingBegun.markIdr :=
  (startAuEnd_marking hfail hcur).trans ((if_neg href).trans (if_pos (decide_eq_true hidr)))

variable (hidr : s.first.nalType ≠ 5)
include hidr

theorem startAuEnd_adaptive (had : s.first.adaptiveMarking = true) : s.startAuEnd = s.markingBegun.push [.fetch .mmco] :=
  (startAuEnd_marking hfail hcur).trans
    ((if_neg href).trans ((if_neg (mt of_decide_eq_true hidr)).trans (if_pos had)))

theorem startAuEnd_sliding (had : s.first.adaptiveMarking = false) : s.startAuEnd = s.markingBegun.slidMarking :=
  (startAuEnd_marking hfail hcur).trans
    ((if_neg href).trans ((if_neg (mt of_decide_eq_true hidr)).trans (if_neg (Bool.not_eq_true _ ▸ had))))

end

/-! ## An IDR picture (R771 step 2) -/

theorem markIdr_au (s : State) : s.markIdr.au = s.au := by
  unfold State.markIdr
  split <;> rfl

theorem markIdr_csr (s : State) : s.markIdr.csr = s.csr := by
  unfold State.markIdr
  split <;> rfl

theorem markIdr_tasks (s : State) : s.markIdr.tasks = s.tasks := by
  unfold State.markIdr
  split <;> rfl

theorem markIdr_long {s : State} (h : s.first.longTermReference = true) :
    s.markIdr = (s.updCur fun f => { f with mark := .longTerm, longTermFrameIdx := 0 }).setMaxLong (some 0) := if_pos h

theorem markIdr_short {s : State} (h : s.first.longTermReference = false) :
    s.markIdr = s.updCur fun f => { f with mark := .shortTerm } := if_neg (Bool.not_eq_true _ ▸ h)

/-- What every case keeps. -/
theorem startAuEnd_keeps (s : State) : s.startAuEnd.au = s.au ∧ s.startAuEnd.csr.busy = true := by
  cases hfail : s.au.failed with
  | true =>
    rw [startAuEnd_failed hfail]
    split
    · exact ⟨auFailed_au s, auFailed_busy s⟩
    · exact ⟨auFailed_au s, auFailed_busy s⟩
  | false =>
    cases hcur : s.au.curFrame with
    | none =>
      rw [startAuEnd_noPicture hfail hcur]
      exact ⟨rfl, rfl⟩
    | some h =>
      rw [startAuEnd_marking hfail hcur, State.startMarking]
      split
      · exact ⟨rfl, rfl⟩
      · split
        · exact ⟨markIdr_au _, congrArg Csr.busy (markIdr_csr _)⟩
        · split
          · exact ⟨rfl, rfl⟩
          · exact ⟨(slidMarking_frame s.markingBegun).au, (slidMarking_frame s.markingBegun).busy⟩

/-! ## The cases of the statement -/

section
variable {s t : State} {h : Nat} {f : Frame → Frame}

/-- The frames after a change of one of them. -/
theorem sameFramesBut_of_modify (ht : t.fs = (s.updFrame h f).fs) (hlt : h < s.fs.length) :
    sameFramesBut s t h ∧ t.frame h = f (s.frame h) := by
  refine ⟨⟨by rw [ht, updFrame_length], fun g hg => ?_⟩, ?_⟩
  · rw [frame_congr ht, frame_updFrame, if_neg fun hand => hg hand.1]
  · rw [frame_congr ht, frame_updFrame, if_pos ⟨rfl, hlt⟩]

end

section
variable {s : State} (hfail : s.au.failed = true)
include hfail

theorem startAuEnd_failed_none (hcur : s.au.curFrame = none) : s.startAuEnd = s.auFailed := by
  rw [startAuEnd_failed hfail, hcur]

theorem startAuEnd_failed_some {h : Nat} (hcur : s.au.curFrame = some h) :
    s.startAuEnd = s.auFailed.updFrame h fun f => { f with inUse := false } := by
  rw [startAuEnd_failed hfail, hcur]

/-- All but the current frame are those of the restored pools. -/
theorem startAuEnd_failed_frame {g : Nat} (hg : s.au.curFrame ≠ some g) : s.startAuEnd.frame g = s.auFailed.frame g := by
  cases hcur : s.au.curFrame with
  | none => rw [startAuEnd_failed_none hfail hcur]
  | some h =>
    rw [startAuEnd_failed_some hfail hcur, frame_updFrame, if_neg fun hand : g = h ∧ _ => hg (hand.1 ▸ hcur)]

theorem startAuEnd_failed_fields : s.startAuEnd.csr.auErr = true ∧ s.startAuEnd.tasks = [.auEndFinish] ∧
    s.startAuEnd.fs.length = s.fs.length ∧ s.startAuEnd.maxLongTermFrameIdx = s.auFailed.maxLongTermFrameIdx := by
  cases hcur : s.au.curFrame with
  | none =>
    rw [startAuEnd_failed_none hfail hcur]
    exact ⟨auFailed_auErr s, auFailed_tasks s, auFailed_length s, rfl⟩
  | some h =>
    rw [startAuEnd_failed_some hfail hcur]
    exact ⟨auFailed_auErr s, auFailed_tasks s, (updFrame_length ..).trans (auFailed_length s), rfl⟩

end

/-- Settles O18, by the cases of R390 and, for the sliding window, by what it does frame by frame. -/
theorem auEndStarts : Obligations.AuEndStarts := by
  intro s
  obtain ⟨hau, hbusy⟩ := startAuEnd_keeps s
  refine ⟨s.startAuEnd, rfl, hbusy, hau, ((Quiet.refl s).startAuEnd).mem, fun hfail => ?failed,
    fun hfail hcur => startAuEnd_noPicture hfail hcur, fun h hfail hcur hlt =>
      ⟨fun href => ?nonRef, fun href hidr => ?idr, fun href hidr had => ?adaptive, fun href hidr had => ?sliding⟩⟩
  case failed =>
    obtain ⟨herr, htasks, hlen, hmax⟩ := startAuEnd_failed_fields hfail
    refine ⟨herr, htasks, hlen, fun h hcur hlt => ?_, fun hnone => ⟨?_, fun hcur => ?_, fun h hcur hlt => ?_⟩,
      fun p hp => ⟨?_, fun g hg hcur => ?_⟩⟩
    · rw [startAuEnd_failed_some hfail hcur, frame_updFrame, if_pos ⟨rfl, (auFailed_length s).symm ▸ hlt⟩]
    · rw [hmax, auFailed_none hnone]
      rfl
    · rw [startAuEnd_failed_none hfail hcur, auFailed_none hnone]
      rfl
    · refine sameFramesBut_of_modify (f := fun f => { f with inUse := false }) ?_ hlt
      rw [startAuEnd_failed_some hfail hcur, auFailed_none hnone]
      rfl
    · rw [hmax, auFailed_maxLong_saved hp]
    · rw [startAuEnd_failed_frame hfail hcur, auFailed_frame_saved hp hg]
      rfl
  case nonRef =>
    rw [startAuEnd_nonReference hfail hcur href]
    exact ⟨rfl, rfl⟩
  case idr =>
    have hcurB : s.markingBegun.cur = h := by
      change s.au.curFrame.getD 0 = h
      rw [hcur, Option.getD_some]
    rw [startAuEnd_idr hfail hcur href hidr]
    refine ⟨markIdr_tasks _, ?_⟩
    cases hlong : s.first.longTermReference with
    | true =>
      rw [markIdr_long (s := s.markingBegun) hlong, State.updCur, hcurB]
      obtain ⟨hsame, hframe⟩ := sameFramesBut_of_modify (s := s) (h := h)
        (t := (s.markingBegun.updFrame h fun f => { f with mark := .longTerm, longTermFrameIdx := 0 }).setMaxLong (some 0)) rfl hlt
      exact ⟨hsame, fun _ => ⟨hframe, rfl⟩, nofun⟩
    | false =>
      rw [markIdr_short (s := s.markingBegun) hlong, State.updCur, hcurB]
      obtain ⟨hsame, hframe⟩ := sameFramesBut_of_modify (s := s) (h := h)
        (t := s.markingBegun.updFrame h fun f => { f with mark := .shortTerm }) rfl hlt
      exact ⟨hsame, nofun, fun _ => ⟨hframe, rfl⟩⟩
  case adaptive =>
    rw [startAuEnd_adaptive hfail hcur href hidr had]
    exact ⟨rfl, rfl, rfl, rfl⟩
  case sliding =>
    have hcurB : s.markingBegun.au.curFrame = some h := hcur
    have hltB : h < s.markingBegun.fs.length := hlt
    have hlongB : s.markingBegun.wk.curLong = false := rfl
    have hkeep := slidMarking_frame s.markingBegun
    have hown := slidMarking_frame_cur hcurB hltB hlongB
    rw [startAuEnd_sliding hfail hcur href hidr had]
    refine ⟨hkeep.tasks, ?_, slidMarking_length hcurB hltB hlongB, hkeep.maxLong, fun hmmco5 => ?_,
      fun g hg => slidMarking_kept hcurB hltB hlongB hg, slidMarking_bounded hcurB hltB hlongB,
      fun g hg hshort hgone => slidMarking_oldest hcurB hltB hlongB hg hshort hgone⟩
    · rw [hown, markedShort_mark]
    · rw [hown]
      exact if_neg (Bool.not_eq_true _ ▸ hmmco5)

end Sys2Proof.Machine
end

section
/-! PROOFS. The macroblock and sub-macroblock types and the CAVLC codes (44_mb_syntax.md): each operation of a table starts its own type with the facts it gives, and what an empty `level_suffix` does past the end of the RBSP. -/

namespace Sys2Proof.Machine

/-! ## The operations of the tables (44_mb_syntax.md R440-R444) -/

theorem exec_codedIntra : ∀ p ∈ codedIntraOps, ∀ s : State, exec p.1 s = .next (s.startMb p.2) := by
  simp only [codedIntraOps, List.forall_mem_cons, List.not_mem_nil, false_implies, implies_true, and_true]
  and_intros
  all_goals exact fun _ => rfl

theorem exec_codedInter : ∀ p ∈ codedInterOps, ∀ s : State, exec p.1 s = .next (s.startMb p.2) := by
  simp only [codedInterOps, List.forall_mem_cons, List.not_mem_nil, false_implies, implies_true, and_true]
  and_intros
  all_goals exact fun _ => rfl

theorem exec_subType : ∀ p ∈ subTypeOps, ∀ s : State, exec p.1 s = .next (s.setSubType p.2) := by
  simp only [subTypeOps, List.forall_mem_cons, List.not_mem_nil, false_implies, implies_true, and_true]
  and_intros
  all_goals exact fun _ => rfl

theorem codedIntraOps_isIntra : ∀ p ∈ codedIntraOps, p.2.isIntra = true ∧ p.2 ≠ .iPcm := by decide

theorem codedInterOps_isInter : ∀ p ∈ codedInterOps, p.2.isIntra = false ∧ p.2.isSkip = false := by decide

/-- Settles O42: each operation of the table sets its own type at the next place. -/
theorem subMacroblockTypes : Obligations.SubMacroblockTypes := exec_subType

/-! ## The start of a coded macroblock (43_slice_fsm.md R384, 44_mb_syntax.md R430, R432) -/

theorem startMb_eq {s : State} {t : MbType} {ks : List Task} (h : typeTasks t = ks ++ [.mbRest]) :
    s.startMb t =
      ((s.setMb { s.mb with mbType := t }).setWk { s.wk with cur := (s.startMb t).wk.cur, subIdx := 0 }).setTasks
        (ks ++ .mbRest :: s.tasks) := by
  rw [List.append_cons, ← h]
  rfl

/-- Only the types of four partitions have sub-macroblock types, from the space of their slice type. -/
theorem codedInterOps_typeTasks : ∀ p ∈ codedInterOps, typeTasks p.2 =
    (if p.2 = .p 3 ∨ p.2 = .p 4 then List.replicate 4 (.fetch .subP)
      else if p.2 = .b 22 then List.replicate 4 (.fetch .subB) else []) ++ [.mbRest] := by decide

/-- A macroblock whose type alone is known has no motion. -/
theorem ofType_motion (t : MbType) (x k : Nat) : (MbInfo.ofType t).motion x k = BlockMotion.none := by
  have hlist : (if x = 0 then (MbInfo.ofType t).motion0 else (MbInfo.ofType t).motion1) = noMotion := ite_self _
  rw [MbInfo.motion, hlist, noMotion, List.getD_eq_getElem?_getD, List.getElem?_replicate]
  split
  · exact Option.getD_some
  · exact Option.getD_none

/-- The tasks and the facts of a coded intra type. -/
theorem codedIntra_facts {t : MbType} (hintra : t.isIntra = true) (hpcm : t ≠ .iPcm) :
    typeTasks t = [.mbRest] ∧ (MbInfo.ofType t).isPcm = false ∧ (MbInfo.ofType t).isSkip = false ∧
    (MbInfo.ofType t).skipFlag = false := by
  cases t with
  | iNxN | i16x16 n => exact ⟨rfl, rfl, rfl, rfl⟩
  | iPcm => exact absurd rfl hpcm
  | p n | b n | pSkip | bSkip => cases hintra

/-- The facts of a coded inter type. -/
theorem codedInter_facts {t : MbType} (hinter : t.isIntra = false) (hskip : t.isSkip = false) :
    (MbInfo.ofType t).isPcm = false ∧ (MbInfo.ofType t).direct8x8 = List.replicate 4 (decide (t = .b 0)) ∧
    (MbInfo.ofType t).cbpLuma = 0 ∧ (MbInfo.ofType t).cbpChroma = 0 := by
  cases t with
  | p n | b n => exact ⟨rfl, rfl, rfl, rfl⟩
  | iNxN | i16x16 n | iPcm => cases hinter
  | pSkip | bSkip => cases hskip

/-- Settles O39: each operation of the two tables starts its own type, with the facts and the work of its kind. -/
theorem codedMacroblockTypes : Obligations.CodedMacroblockTypes := by
  refine ⟨fun p hp s => ⟨s.startMb p.2, exec_codedIntra p hp s, ?_⟩,
    fun p hp s => ⟨s.startMb p.2, exec_codedInter p hp s, ?_⟩⟩
  · obtain ⟨hintra, hpcm⟩ := codedIntraOps_isIntra p hp
    obtain ⟨htasks, hisPcm, hisSkip, hskipFlag⟩ := codedIntra_facts hintra hpcm
    refine ⟨startMb_eq (ks := []) htasks, rfl, hintra, hisPcm, hisSkip, hskipFlag, fun n hn => ?cbp, rfl, rfl, fun x k => ?motion⟩
    case cbp => rw [hn]; exact ⟨rfl, rfl⟩
    case motion =>
      have hnone : (s.startMb p.2).wk.cur.motion x k = BlockMotion.none := ofType_motion p.2 x k
      rw [hnone]
      exact ⟨rfl, rfl⟩
  · obtain ⟨hinter, hskip⟩ := codedInterOps_isInter p hp
    obtain ⟨hisPcm, hdirect, hluma, hchroma⟩ := codedInter_facts hinter hskip
    exact ⟨startMb_eq (codedInterOps_typeTasks p hp), rfl, hinter, hisPcm, hskip, hskip, rfl, hdirect, hluma, hchroma⟩

/-! ## `level_suffix` past the end of the RBSP (40_bitreader_nal.md R212, R214) -/

theorem exec_levelSuffix_pastEnd {s : State} {n : Nat} (h : s.br.cursor + n > 8 * s.br.rbsp.length) :
    exec (.descCe (.levelSuffix n)) s = .next (s.raise .bits) := by
  have hread : readCe (.levelSuffix n) s.ps = .error .bits s.ps := bind_of_error (readBits_pastEnd h)
  exact congrArg Host.Outcome.next (parse_error s _ _ _ _ hread)

/-- Refutes O36: the clause of `level_suffix` has no bound on the cursor, and with size 0 its premise on the bits is empty. With the cursor one past the end of an empty RBSP the read of no bits raises `E_BITS` and sets ERR_CODE, where the clause says that the value 0 is kept. -/
theorem not_cavlcCodeReads : ¬ Obligations.CavlcCodeReads := by
  unfold Obligations.CavlcCodeReads
  intro h
  let s : State := State.reset.setBr ⟨[], 1, none⟩
  obtain ⟨-, -, -, -, hsuffix, -⟩ := h s
  have hraised : exec (.descCe (.levelSuffix 0)) s = .next (s.raise .bits) := exec_levelSuffix_pastEnd (by decide)
  have hkept := Host.Outcome.next.inj (hraised.symm.trans (hsuffix 0 [] rfl rfl))
  have hcode : (s.raise .bits).csr.errCode = s.csr.errCode := congrArg (·.csr.errCode) hkept
  exact absurd hcode (by decide)

end Sys2Proof.Machine
end

section
/-! PROOFS. The CABAC engine (45_cabac_syntax.md R500, R502, R504): what reading an element keeps, what the bypass and terminate procedures and an oracle answer, and the codeword that the procedures measure. -/

namespace Sys2Proof.Machine

/-! ## Elements (R507) -/

section
variable {s : State} {r : Rd Int} {v : Int} {p : Ps}

/-- A reader that moves the cursor and the engine alone leaves the rest of what parsing works on. -/
theorem setPs_of_kept (h : Kept s.ps p) : s.setPs p = (s.setBr p.br).setCabac p.cabac := by
  obtain ⟨-, -, hmb, hcur, -, -⟩ := h
  rw [State.setPs, hmb, hcur]
  rfl

theorem readElem_of_kept (hk : Kept s.ps p) (h : r s.ps = .ok v p) :
    s.readElem r = ((s.setBr p.br).setCabac p.cabac).setWk { s.wk with elem := v, elem2 := 0 } := by
  rw [State.readElem, parse_ok s r _ v p h, setPs_of_kept hk]
  rfl

end

theorem Kept.cursor_le {p q : Ps} (h : Kept p q) : p.br.cursor ≤ q.br.cursor := by
  obtain ⟨-, -, -, -, -, hle⟩ := h
  exact hle

/-- An element whose reader succeeds is kept with the cursor and the engine that the reader leaves. -/
theorem exec_descAe_ok {s : State} {e : AeElem} {v : Int} {p : Ps} (h : readAe s e s.ps = .ok v p) :
    exec (.descAe e) s = .next (((s.setBr p.br).setCabac p.cabac).setWk { s.wk with elem := v, elem2 := 0 }) :=
  congrArg Host.Outcome.next (readElem_of_kept ((Keeps.ae s e).1 _ _ _ h) h)

theorem exec_descAe_error {s : State} {e : AeElem} {x : ErrCode} {p : Ps} (h : readAe s e s.ps = .error x p) :
    exec (.descAe e) s = .next (((s.setBr p.br).setCabac p.cabac).raise x) :=
  congrArg Host.Outcome.next (parse_error s _ _ x p h)

/-- Settles O37: every element's reader moves the cursor and the engine alone, so what is put back is these two and the value. -/
theorem cabacElementReads : Obligations.CabacElementReads := by
  intro s e
  obtain ⟨hok, herror⟩ := Keeps.ae s e
  refine ⟨fun v p h => ?_, fun x p h => ?_⟩
  · exact ⟨(hok _ _ _ h).br, (hok _ _ _ h).cursor_le, exec_descAe_ok h⟩
  · exact ⟨(herror _ _ _ h).br, exec_descAe_error h⟩

/-! ## The procedures (R502) -/

/-- What a sequence of readers that succeeds went through. -/
theorem bind_eq_ok {α β : Type} {r : Rd α} {f : α → Rd β} {p q : Ps} {v : β} (h : (r >>= f) p = .ok v q) :
    ∃ a p', r p = .ok a p' ∧ f a p' = .ok v q := by
  cases hr : r p with
  | ok a p' => exact ⟨a, p', rfl, (bind_of_ok hr).symm.trans h⟩
  | error e p' => cases (bind_of_error hr).symm.trans h

/-- A bit shifted into a register that keeps nine (log entry 44). -/
theorem ofNat_shiftIn (r : BitVec 9) (b : Bool) : BitVec.ofNat 9 (shiftIn r b.toNat) = 2 * r + if b then 1 else 0 := by
  apply BitVec.eq_of_toNat_eq
  cases b <;> simp [shiftIn]

theorem shiftIn_toNat (r : BitVec 9) (b : Bool) : shiftIn r b.toNat = 2 * r.toNat + if b then 1 else 0 := by
  cases b <;> rfl

/-- The procedure of R502 that does an operation of the engine. -/
def EngineOp.procedure : EngineOp → Rd Nat
  | .decision c => decodeDecision c
  | .bypass => decodeBypass
  | .terminate => decodeTerminate

/-- The engine of the reader with another range. -/
def Ps.withRange (p : Ps) (range : BitVec 9) : Ps := { p with cabac := { p.cabac with range := range } }

section
variable {p q : Ps} {b : Bool}

theorem decodeBypass_eq (hs : p.br.startsWith [b]) :
    decodeBypass p =
      let off := 2 * p.cabac.offset.toNat + if b then 1 else 0
      if off ≥ p.cabac.range.toNat then
        .ok 1 { p with br := p.br.advance 1, cabac := { p.cabac with offset := BitVec.ofNat 9 (off - p.cabac.range.toNat) } }
      else .ok 0 { p with br := p.br.advance 1, cabac := { p.cabac with offset := BitVec.ofNat 9 off } } := by
  rw [decodeBypass, bind_of_ok (readBits_one hs), ← shiftIn_toNat]
  change (if shiftIn p.cabac.offset b.toNat ≥ p.cabac.range.toNat then _ else _ : Rd Nat) _ = _
  dsimp only
  split <;> rfl

/-- Renormalisation reads nothing while the range is 256 or more. -/
theorem renorm_of_ge (n : Nat) (h : p.cabac.range ≥ 256) : renorm n p = .ok () p := by
  cases n with
  | zero => rfl
  | succ n =>
    change (if p.cabac.range < 256 then _ else _ : Rd Unit) p = _
    rw [if_neg (BitVec.not_lt.2 h)]
    rfl

/-- Below 256 the range is doubled and a bit is shifted into the offset. -/
theorem renorm_succ_of_lt (n : Nat) (h : p.cabac.range < 256) (hs : p.br.startsWith [b]) :
    renorm (n + 1) p = renorm n { p with
      br := p.br.advance 1
      cabac := { p.cabac with
        range := 2 * p.cabac.range
        offset := 2 * p.cabac.offset + if b then 1 else 0 } } := by
  have hrange : BitVec.ofNat 9 (shiftIn p.cabac.range 0) = 2 * p.cabac.range :=
    (ofNat_shiftIn p.cabac.range false).trans (BitVec.add_zero _)
  rw [← hrange, ← ofNat_shiftIn]
  change (if p.cabac.range < 256 then _ else _ : Rd Unit) p = _
  rw [if_pos h, bind_of_ok (readBits_one hs)]
  rfl

theorem decodeTerminate_one (h : p.cabac.offset ≥ p.cabac.range - 2) :
    decodeTerminate p = .ok 1 (p.withRange (p.cabac.range - 2)) := by
  change (if p.cabac.offset ≥ p.cabac.range - 2 then _ else _ : Rd Nat) _ = _
  rw [if_pos h]
  rfl

theorem decodeTerminate_renorm (h : p.cabac.offset < p.cabac.range - 2) :
    decodeTerminate p = (renorm 9 >>= fun _ => pure 0) (p.withRange (p.cabac.range - 2)) := by
  change (if p.cabac.offset ≥ p.cabac.range - 2 then _ else _ : Rd Nat) _ = _
  rw [if_neg (BitVec.not_le.2 h)]
  rfl

theorem decodeTerminate_zero (h : p.cabac.offset < p.cabac.range - 2)
    (hr : renorm 9 (p.withRange (p.cabac.range - 2)) = .ok () q) : decodeTerminate p = .ok 0 q :=
  (decodeTerminate_renorm h).trans (bind_of_ok hr)

/-- A range just above 256 less two is renormalised by one doubling. -/
theorem renorm_once (h : p.cabac.range = 256 ∨ p.cabac.range = 257) (hs : p.br.startsWith [b]) :
    renorm 9 (p.withRange (p.cabac.range - 2)) = .ok () { p with
      br := p.br.advance 1
      cabac := { p.cabac with
        range := 2 * (p.cabac.range - 2)
        offset := 2 * p.cabac.offset + if b then 1 else 0 } } := by
  have hlt : p.cabac.range - 2 < 256 := by rcases h with h | h <;> rw [h] <;> decide
  have hge : 2 * (p.cabac.range - 2) ≥ 256 := by rcases h with h | h <;> rw [h] <;> decide
  exact (renorm_succ_of_lt (p := p.withRange (p.cabac.range - 2)) 8 hlt hs).trans (renorm_of_ge 8 hge)

end

/-! ## The codeword that the procedures measure (R504) -/

/-- The contexts, the range and the position that the procedures are at. -/
def Ps.codeword (p : Ps) : Codeword := ⟨p.cabac.ctx, p.cabac.range, p.br.cursor⟩

section
variable {p q : Ps} {v : Nat}

/-- A bin that is given after renormalisation. -/
theorem renorm_then_eq_ok {w : Nat} (h : (renorm 9 >>= fun _ => pure w) p = .ok v q) :
    v = w ∧ p.codeword.renorm 9 = q.codeword := by
  obtain ⟨_, p', hr, hv⟩ := bind_eq_ok h
  cases hv
  exact ⟨rfl, renorm_codeword 9 p q hr⟩

theorem readBits_eq_ok {n : Nat} (h : readBits n p = .ok v q) : q = { p with br := p.br.advance n } := by
  unfold readBits at h
  split at h <;> cases h
  rfl

theorem decodeBypass_codeword (h : decodeBypass p = .ok v q) : q.codeword = { p.codeword with stop := p.br.cursor + 1 } := by
  obtain ⟨b, p', hb, h⟩ := bind_eq_ok h
  obtain rfl := readBits_eq_ok hb
  change (if shiftIn p.cabac.offset b ≥ p.cabac.range.toNat then _ else _ : Rd Nat) _ = _ at h
  split at h <;> cases h <;> rfl

theorem decodeTerminate_codeword (h : decodeTerminate p = .ok v q) :
    p.codeword.next .terminate (decide (v = 1)) = q.codeword := by
  by_cases hge : p.cabac.offset ≥ p.cabac.range - 2
  · cases (decodeTerminate_one hge).symm.trans h
    rfl
  · obtain ⟨rfl, hw⟩ := renorm_then_eq_ok ((decodeTerminate_renorm (BitVec.not_le.1 hge)).symm.trans h)
    exact hw

/-- A decision gives the less or the more probable symbol, with the context and the range that follow it. -/
theorem decodeDecision_codeword {c : Nat} (h : decodeDecision c p = .ok v q) :
    let x := p.cabac.ctx.getD c ⟨0, 0⟩
    let lps := x.rangeLps p.cabac.range
    v = 1 - x.valMps ∧ Codeword.renorm 9 ⟨p.cabac.ctx.set c x.lps, lps, p.br.cursor⟩ = q.codeword ∨
    v = x.valMps ∧ Codeword.renorm 9 ⟨p.cabac.ctx.set c x.mps, p.cabac.range - lps, p.br.cursor⟩ = q.codeword := by
  intro x lps
  change (if p.cabac.offset ≥ p.cabac.range - lps then _ else _ : Rd Nat) p = _ at h
  split at h
  · exact .inl (renorm_then_eq_ok h)
  · exact .inr (renorm_then_eq_ok h)

theorem getD_valMps_le {ctx : List Ctx} (h : ∀ x ∈ ctx, x.valMps ≤ 1) (c : Nat) : (ctx.getD c ⟨0, 0⟩).valMps ≤ 1 := by
  rw [List.getD_eq_getElem?_getD]
  cases hx : ctx[c]? with
  | none => exact Nat.zero_le 1
  | some x => exact h x (List.mem_of_getElem? hx)

/-- A bin as a number. -/
theorem toNat_decide_eq_one (h : v ≤ 1) : (decide (v = 1)).toNat = v := by
  rcases Nat.le_one_iff_eq_zero_or_eq_one.1 h with rfl | rfl <;> rfl

/-- The codeword one bin longer is what the procedure that gave the bin holds and has read. -/
theorem procedure_codeword {op : EngineOp} (hctx : ∀ x ∈ p.cabac.ctx, x.valMps ≤ 1) (h : op.procedure p = .ok v q) :
    p.codeword.next op (decide (v = 1)) = q.codeword := by
  cases op with
  | bypass => exact (decodeBypass_codeword h).symm
  | terminate => exact decodeTerminate_codeword h
  | decision c =>
    have hmps := getD_valMps_le hctx c
    change (if (decide (v = 1)).toNat = (p.cabac.ctx.getD c ⟨0, 0⟩).valMps then _ else _) = _
    rcases decodeDecision_codeword h with ⟨hv, hw⟩ | ⟨hv, hw⟩
    · rw [toNat_decide_eq_one (by omega), if_neg (by omega)]
      exact hw
    · rw [toNat_decide_eq_one (by omega), if_pos hv]
      exact hw

end

/-! ## The elements of one bin (R517, R523, R535) -/

/-- The element is one bin, and `op` the operation of the engine that gives it. -/
def BinOf (e : AeElem) (op : EngineOp) : Prop :=
  (e = .coeffSignFlag ∧ op = .bypass) ∨ (e = .endOfSliceFlag ∧ op = .terminate) ∨ (e = .prevIntraPredModeFlag ∧ op = .decision 68)

section
variable {s : State} {e : AeElem} {op : EngineOp} (he : BinOf e op)
include he

theorem readAe_bin : readAe s e = natRd (engineOp op op.procedure) := by
  rcases he with ⟨rfl, rfl⟩ | ⟨rfl, rfl⟩ | ⟨rfl, rfl⟩ <;> rfl

theorem exec_bin_ok {v : Nat} {p : Ps} (h : engineOp op op.procedure s.ps = .ok v p) :
    exec (.descAe e) s = .next (((s.setBr p.br).setCabac p.cabac).setWk { s.wk with elem := v, elem2 := 0 }) :=
  exec_descAe_ok ((congrFun (readAe_bin he) _).trans (natRd_ok h))

theorem exec_bin_error {x : ErrCode} {p : Ps} (h : engineOp op op.procedure s.ps = .error x p) :
    exec (.descAe e) s = .next (((s.setBr p.br).setCabac p.cabac).raise x) :=
  exec_descAe_error ((congrFun (readAe_bin he) _).trans (natRd_error h))

end

section
variable {s : State} (hk : s.params.cabacEngine = .procedures) {v : Nat} {p : Ps}
include hk

/-- The sign of a coefficient, by an engine of the procedures. -/
theorem exec_coeffSignFlag (h : decodeBypass s.ps = .ok v p) : exec (.descAe .coeffSignFlag) s =
    .next (((s.setBr p.br).setCabac p.cabac).setWk { s.wk with elem := v, elem2 := 0 }) :=
  exec_bin_ok (.inl ⟨rfl, rfl⟩) ((engineOp_procedures hk).trans h)

/-- The end of a slice, by an engine of the procedures. -/
theorem exec_endOfSliceFlag (h : decodeTerminate s.ps = .ok v p) : exec (.descAe .endOfSliceFlag) s =
    .next (((s.setBr p.br).setCabac p.cabac).setWk { s.wk with elem := v, elem2 := 0 }) :=
  exec_bin_ok (.inr (.inl ⟨rfl, rfl⟩)) ((engineOp_procedures hk).trans h)

end

/-- Settles O38, by what each procedure and an oracle answer, and by the codeword that the procedures measure. -/
theorem bypassAndTerminateBins : Obligations.BypassAndTerminateBins := by
  refine ⟨fun s hk => ⟨fun b hs => ⟨fun hge => ?bypassOne, fun hlt => ?bypassZero⟩, fun hge => ?terminateOne,
    fun hlt hwide => ?terminateZero, fun b hlt hrange hs => ?terminateRenorm⟩,
    fun s e op hk he hend => ?oracle, fun s e op v p hk he hctx hread => ?codeword⟩
  case bypassOne => exact exec_coeffSignFlag hk ((decodeBypass_eq hs).trans (if_pos hge))
  case bypassZero => exact exec_coeffSignFlag hk ((decodeBypass_eq hs).trans (if_neg (Nat.not_le.2 hlt)))
  case terminateOne => exact exec_endOfSliceFlag hk (decodeTerminate_one hge)
  case terminateZero => exact exec_endOfSliceFlag hk (decodeTerminate_zero hlt (renorm_of_ge 9 hwide))
  case terminateRenorm => exact exec_endOfSliceFlag hk (decodeTerminate_zero hlt (renorm_once hrange hs))
  case oracle =>
    intro turn word left n
    have hask := askOracle_eq op s.ps hend
    have helem : ((turn.bin.toNat : Nat) : Int) = if turn.bin then 1 else 0 := by cases turn.bin <;> rfl
    by_cases hfit : s.br.cursor + n ≤ 8 * s.br.rbsp.length
    · rw [if_pos hfit, ← helem]
      exact exec_bin_ok he ((engineOp_oracle hk).trans (hask.trans (if_pos hfit)))
    · rw [if_neg hfit]
      exact exec_bin_error he ((engineOp_oracle hk).trans (hask.trans (if_neg hfit)))
  case codeword =>
    obtain ⟨bin, q, hbin, hv⟩ := bind_eq_ok ((congrFun (readAe_bin he) _).symm.trans hread)
    cases hv
    have hone : decide ((bin : Int) = 1) = decide (bin = 1) := decide_eq_decide.2 (by omega)
    rw [hone]
    exact procedure_codeword (p := s.ps) hctx ((engineOp_procedures hk).symm.trans hbin)

end Sys2Proof.Machine
end

section
/-! PROOFS. The decoder of I_PCM (46_mb_decoders.md R551): whole bytes read one after another, the samples and, with CABAC, the engine's restart, then what the macroblock leaves and what an RBSP that ends too early does. -/

namespace Sys2Proof.Machine

/-! ## Bytes of the RBSP (40_bitreader_nal.md R212) -/

/-- Eight bits from the start of a byte on are that byte. -/
theorem bitsToNat_eight {b : Br} {q : Nat} (hq : b.cursor = 8 * q) (h : b.cursor + 8 ≤ 8 * b.rbsp.length) :
    bitsToNat (b.window 8) = (b.rbsp.getD q 0).toNat := by
  have hbit (j : Nat) (hj : j ∈ List.range 8) :
      (b.rbsp.getD ((8 * q + j) / 8) 0).toNat / 2 ^ (7 - (8 * q + j) % 8) % 2 * 2 ^ (8 - 1 - j) =
        (b.rbsp.getD q 0).toNat / 2 ^ (7 - j) % 2 * 2 ^ (7 - j) := by
    have hlt : j < 8 := List.mem_range.1 hj
    rw [show (8 * q + j) / 8 = q by omega, show (8 * q + j) % 8 = j by omega]
  have hbyte := (b.rbsp.getD q 0).isLt
  rw [bitsToNat_window h, hq, List.map_congr_left hbit]
  simp only [List.range_succ, List.range_zero, List.nil_append, List.map_append, List.map_singleton, List.sum_append,
    List.sum_singleton]
  omega

/-- The bytes from index `q` on as numbers. -/
def Br.bytes (b : Br) (q n : Nat) : List Nat := (List.range n).map fun j => (b.rbsp.getD (q + j) 0).toNat

@[simp] theorem bytes_length (b : Br) (q n : Nat) : (b.bytes q n).length = n := by simp [Br.bytes]

theorem bytes_succ (b : Br) (q n : Nat) : b.bytes q (n + 1) = b.bytes q n ++ [(b.rbsp.getD (q + n) 0).toNat] := by
  simp [Br.bytes, List.range_succ]

theorem bytes_add (b : Br) (q m n : Nat) : b.bytes q (m + n) = b.bytes q m ++ b.bytes (q + m) n := by
  simp [Br.bytes, List.range_add, Nat.add_assoc]

/-- A reader run once more. -/
theorem readEach_succ {α : Type} (n : Nat) (f : Nat → Rd α) :
    readEach (n + 1) f = readEach n f >>= fun vs => f n >>= fun v => pure (vs ++ [v]) := by
  simp [readEach, List.range_succ]

section
variable {p : Ps}

/-- From the start of a byte on, whole bytes within the RBSP are read. -/
theorem readEach_byte_ok {q : Nat} (hq : p.br.cursor = 8 * q) : ∀ n, p.br.cursor + 8 * n ≤ 8 * p.br.rbsp.length →
    readEach n (fun _ => readBits 8) p = .ok (p.br.bytes q n) { p with br := p.br.advance (8 * n) } := by
  intro n
  induction n with
  | zero => exact fun _ => rfl
  | succ n ih =>
    intro hfit
    have hstart : (p.br.advance (8 * n)).cursor = 8 * (q + n) := by rw [Br.advance, hq, Nat.mul_add]
    have hlast : (p.br.advance (8 * n)).cursor + 8 ≤ 8 * (p.br.advance (8 * n)).rbsp.length := by
      change p.br.cursor + 8 * n + 8 ≤ 8 * p.br.rbsp.length
      omega
    rw [readEach_succ, bind_of_ok (ih (by omega)),
      bind_of_ok (readBits_ok (p := { p with br := p.br.advance (8 * n) }) hlast), bitsToNat_eight hstart hlast, bytes_succ]
    rfl

/-- Bytes past the end of the RBSP raise `E_BITS`. -/
theorem readEach_byte_pastEnd {q : Nat} (hq : p.br.cursor = 8 * q) (hcur : p.br.cursor ≤ 8 * p.br.rbsp.length) :
    ∀ n, p.br.cursor + 8 * n > 8 * p.br.rbsp.length → ∃ r, readEach n (fun _ => readBits 8) p = .error .bits r := by
  intro n
  induction n with
  | zero => exact fun hend => absurd hcur (Nat.not_le.2 hend)
  | succ n ih =>
    intro hend
    rw [readEach_succ]
    by_cases hfit : p.br.cursor + 8 * n ≤ 8 * p.br.rbsp.length
    · have hlast : (p.br.advance (8 * n)).cursor + 8 > 8 * (p.br.advance (8 * n)).rbsp.length := by
        change p.br.cursor + 8 * n + 8 > 8 * p.br.rbsp.length
        omega
      rw [bind_of_ok (readEach_byte_ok hq n hfit),
        bind_of_error (readBits_pastEnd (p := { p with br := p.br.advance (8 * n) }) hlast)]
      exact ⟨_, rfl⟩
    · obtain ⟨r, hr⟩ := ih (Nat.not_le.1 hfit)
      exact ⟨r, bind_of_error hr⟩

end

/-! ## The engine's restart (45_cabac_syntax.md R500) -/

/-- The reader with the engine started on the nine bits at the cursor. -/
def Ps.restarted (p : Ps) : Ps :=
  { p with br := p.br.advance 9, cabac := p.cabac.start (bitsToNat (p.br.window 9)) (p.br.cursor + 9) }

theorem initEngine_ok {p : Ps} (hfit : p.br.cursor + 9 ≤ 8 * p.br.rbsp.length) : initEngine p = .ok () p.restarted :=
  bind_of_ok (readBits_ok hfit)

theorem initEngine_pastEnd {p : Ps} (hend : p.br.cursor + 9 > 8 * p.br.rbsp.length) : initEngine p = .error .bits p :=
  bind_of_error (readBits_pastEnd hend)

/-- The offset is the byte at the cursor and the top bit of the next. -/
theorem restarted_offset {p : Ps} {q : Nat} (hq : p.br.cursor = 8 * q) (hfit : p.br.cursor + 9 ≤ 8 * p.br.rbsp.length) :
    p.restarted.cabac.offset.toNat = 2 * (p.br.rbsp.getD q 0).toNat + (p.br.rbsp.getD (q + 1) 0).toNat / 128 := by
  have hbyte := (p.br.rbsp.getD q 0).isLt
  have hnext := (p.br.rbsp.getD (q + 1) 0).isLt
  refine (BitVec.toNat_ofNat _ 9).trans ?_
  rw [bitsToNat_nine hq hfit, Nat.mod_eq_of_lt (by omega)]

/-! ## The samples of I_PCM (44_mb_syntax.md R430) -/

/-- The byte where the samples begin. -/
def Br.pcmByte (b : Br) : Nat := b.aligned / 8

theorem aligned_eq (b : Br) : b.aligned = 8 * b.pcmByte := by
  rw [Br.pcmByte, Br.aligned]
  omega

/-- The reader where the samples begin. -/
def Ps.atSamples (p : Ps) : Ps := { p with br := { p.br with cursor := p.br.aligned } }

/-- The reader where the chroma samples begin. -/
def Ps.atChroma (p : Ps) : Ps := { p with br := { p.br with cursor := p.br.aligned + 2048 } }

theorem atChroma_cursor (p : Ps) : p.atChroma.br.cursor = 8 * (p.br.pcmByte + 256) := by
  change p.br.aligned + 2048 = _
  rw [aligned_eq, Nat.mul_add]

/-- The reader after the samples. -/
def Ps.pcmRead (p : Ps) : Ps :=
  { p with
    br := { p.br with cursor := p.br.aligned + 3072 }
    mb := { p.mb with
      pcmLuma := p.br.bytes p.br.pcmByte 256
      pcmChroma := p.br.bytes (p.br.pcmByte + 256) 128 } }

/-- The reader after an I_PCM macroblock, in CABAC with the engine started again. -/
def Ps.pcmDone (p : Ps) (cabac : Bool) : Ps :=
  { p.pcmRead with
    br := p.pcmRead.br.advance (if cabac then 9 else 0)
    cabac := if cabac then p.pcmRead.restarted.cabac else p.cabac }

section
variable {s : State} {p : Ps}

theorem readAlignment_ok (hfit : p.br.aligned ≤ 8 * p.br.rbsp.length) :
    readBits ((8 - p.br.cursor % 8) % 8) p = .ok (bitsToNat (p.br.window ((8 - p.br.cursor % 8) % 8))) p.atSamples :=
  readBits_ok hfit

theorem readLuma_ok (hfit : p.br.aligned + 2048 ≤ 8 * p.br.rbsp.length) :
    readEach 256 (fun _ => readBits 8) p.atSamples = .ok (p.br.bytes p.br.pcmByte 256) p.atChroma :=
  readEach_byte_ok (p := p.atSamples) (aligned_eq p.br) 256 hfit

theorem readChroma_ok (hfit : p.br.aligned + 3072 ≤ 8 * p.br.rbsp.length) :
    readEach 128 (fun _ => readBits 8) p.atChroma =
      .ok (p.br.bytes (p.br.pcmByte + 256) 128) { p with br := { p.br with cursor := p.br.aligned + 3072 } } :=
  readEach_byte_ok (p := p.atChroma) (atChroma_cursor p) 128 hfit

/-- Samples within the RBSP are read, and then the engine starts again in CABAC. -/
theorem readPcm_samples (hfit : p.br.aligned + 3072 ≤ 8 * p.br.rbsp.length) :
    readPcm s p = (if s.hdr.pps.cabac then initEngine else pure ()) p.pcmRead := by
  rw [readPcm, bind_of_ok (show (get : Rd Ps) p = .ok p p from rfl), bind_of_ok (readAlignment_ok (by omega)),
    bind_of_ok (readLuma_ok (by omega)), bind_of_ok (readChroma_ok hfit)]
  rfl

/-- Samples past the end of the RBSP raise `E_BITS`, at the alignment, in the luma or in the chroma. -/
theorem readPcm_samples_pastEnd (hend : p.br.aligned + 3072 > 8 * p.br.rbsp.length) : ∃ q, readPcm s p = .error .bits q := by
  rw [readPcm, bind_of_ok (show (get : Rd Ps) p = .ok p p from rfl)]
  by_cases halign : p.br.aligned ≤ 8 * p.br.rbsp.length
  · rw [bind_of_ok (readAlignment_ok halign)]
    by_cases hluma : p.br.aligned + 2048 ≤ 8 * p.br.rbsp.length
    · obtain ⟨q, hq⟩ := readEach_byte_pastEnd (p := p.atChroma) (atChroma_cursor p) hluma 128 hend
      exact ⟨q, (bind_of_ok (readLuma_ok hluma)).trans (bind_of_error hq)⟩
    · obtain ⟨q, hq⟩ := readEach_byte_pastEnd (p := p.atSamples) (aligned_eq p.br) halign 256 (Nat.not_le.1 hluma)
      exact ⟨q, bind_of_error hq⟩
  · exact ⟨p, bind_of_error (readBits_pastEnd (Nat.not_le.1 halign))⟩

theorem readPcm_ok (hfit : p.br.aligned + 3072 + (if s.hdr.pps.cabac then 9 else 0) ≤ 8 * p.br.rbsp.length) :
    readPcm s p = .ok () (p.pcmDone s.hdr.pps.cabac) := by
  rw [readPcm_samples (by omega)]
  cases hc : s.hdr.pps.cabac with
  | true =>
    rw [hc] at hfit
    exact initEngine_ok (p := p.pcmRead) hfit
  | false => rfl

/-- Too few bits raise `E_BITS`, in the samples or in the engine's restart. -/
theorem readPcm_pastEnd (hend : p.br.aligned + 3072 + (if s.hdr.pps.cabac then 9 else 0) > 8 * p.br.rbsp.length) :
    ∃ q, readPcm s p = .error .bits q := by
  by_cases hfit : p.br.aligned + 3072 ≤ 8 * p.br.rbsp.length
  · have hc : s.hdr.pps.cabac = true := by
      by_contra hc
      rw [if_neg hc] at hend
      omega
    rw [if_pos hc] at hend
    rw [readPcm_samples hfit, if_pos hc]
    exact ⟨_, initEngine_pastEnd (p := p.pcmRead) hend⟩
  · exact readPcm_samples_pastEnd (Nat.not_le.1 hfit)

end

/-! ## The macroblock (46_mb_decoders.md R551) -/

theorem exec_pcm {i : Instr} (hi : i = .iPcm ∨ i = .pIPcm ∨ i = .bIPcm) (s : State) : exec i s = .next s.startPcm := by
  rcases hi with rfl | rfl | rfl <;> rfl

/-- The bytes of the RBSP as samples. -/
theorem bytes_cast (b : Br) (q n : Nat) :
    (b.bytes q n).map (fun v : Nat => (v : Int)) = (List.range n).map fun j => ((b.rbsp.getD (q + j) 0).toNat : Int) := by
  rw [Br.bytes, List.map_map]
  rfl

/-- The decoding once the samples are read. -/
@[simp] def State.finishPcm (s : State) : State := (((s.setMb s.mb.pcmRecon).warnIpcm).updQp 0).push [.writeBack]

/-- What an I_PCM macroblock leaves when its reader ends in `p`. -/
def State.afterPcm (s : State) (p : Ps) : State := ((s.setMbType .iPcm).setPs p).finishPcm

section
variable (s : State) (t : MbType)
@[simp] theorem setMbType_csr : (s.setMbType t).csr = s.csr := rfl
@[simp] theorem setMbType_tasks : (s.setMbType t).tasks = s.tasks := rfl
@[simp] theorem setMbType_ds : (s.setMbType t).ds = s.ds := rfl
@[simp] theorem setMbType_mem : (s.setMbType t).mem = s.mem := rfl
@[simp] theorem setMbType_fs : (s.setMbType t).fs = s.fs := rfl
@[simp] theorem setMbType_au : (s.setMbType t).au = s.au := rfl
@[simp] theorem setMbType_sl : (s.setMbType t).sl = s.sl := rfl
end

section
variable (s : State) (p : Ps)

theorem afterPcm_csr : (s.afterPcm p).csr = { s.csr with warnIpcm := true } := by simp [State.afterPcm]
theorem afterPcm_tasks : (s.afterPcm p).tasks = .writeBack :: s.tasks := by simp [State.afterPcm]
theorem afterPcm_mb : (s.afterPcm p).mb = p.mb.pcmRecon := by simp [State.afterPcm]
theorem afterPcm_br : (s.afterPcm p).br = p.br := by simp [State.afterPcm]
theorem afterPcm_cabac : (s.afterPcm p).cabac = p.cabac := by simp [State.afterPcm]
theorem afterPcm_cur : (s.afterPcm p).wk.cur = p.cur := by simp [State.afterPcm]
theorem afterPcm_mem : (s.afterPcm p).mem = s.mem := by simp [State.afterPcm]
theorem afterPcm_fs : (s.afterPcm p).fs = s.fs := by simp [State.afterPcm]
theorem afterPcm_au : (s.afterPcm p).au = s.au := by simp [State.afterPcm]
theorem afterPcm_sl : (s.afterPcm p).sl = s.sl := by simp [State.afterPcm]

/-- A QP in its range stays. -/
theorem afterPcm_ds (hlo : 0 ≤ s.ds.qpY) (hhi : s.ds.qpY ≤ 51) :
    (s.afterPcm p).ds = { s.ds with qpYPrev := s.ds.qpY, prevMbQpDeltaNonZero := false } := by
  have hqp : s.ds.qpY % 52 = s.ds.qpY := Int.emod_eq_of_lt hlo (by omega)
  simp [State.afterPcm, hqp]

end

section
variable {s : State}

theorem startPcm_ok (hfit : s.br.aligned + 3072 + (if s.hdr.pps.cabac then 9 else 0) ≤ 8 * s.br.rbsp.length) :
    s.startPcm = s.afterPcm ((s.setMbType .iPcm).ps.pcmDone s.hdr.pps.cabac) :=
  parse_ok _ _ (fun _ => State.finishPcm) () _ (readPcm_ok (s := s.setMbType .iPcm) (p := (s.setMbType .iPcm).ps) hfit)

theorem startPcm_pastEnd (hend : s.br.aligned + 3072 + (if s.hdr.pps.cabac then 9 else 0) > 8 * s.br.rbsp.length) :
    ∃ q : Ps, s.startPcm = (((s.setMbType .iPcm).setBr q.br).setCabac q.cabac).raise .bits := by
  obtain ⟨q, hq⟩ := readPcm_pastEnd (s := s.setMbType .iPcm) (p := (s.setMbType .iPcm).ps) hend
  exact ⟨q, parse_error _ _ (fun _ => State.finishPcm) _ _ hq⟩

end

section
variable (p : Ps)

/-- The reconstruction is the 256 bytes of the luma, then 64 of Cb and 64 of Cr (R551). -/
theorem pcmDone_reconY (c : Bool) : (p.pcmDone c).mb.pcmRecon.reconY =
    (List.range 256).map fun j => ((p.br.rbsp.getD (p.br.pcmByte + j) 0).toNat : Int) := bytes_cast p.br p.br.pcmByte 256

theorem pcmDone_reconCb (c : Bool) : (p.pcmDone c).mb.pcmRecon.reconCb =
    (List.range 64).map fun j => ((p.br.rbsp.getD (p.br.pcmByte + (256 + j)) 0).toNat : Int) := by
  have hcb : (p.br.bytes (p.br.pcmByte + 256) 128).take 64 = p.br.bytes (p.br.pcmByte + 256) 64 := by
    rw [bytes_add _ _ 64 64, List.take_left' (bytes_length _ _ _)]
  change ((p.br.bytes (p.br.pcmByte + 256) 128).take 64).map _ = _
  simp only [hcb, bytes_cast, Nat.add_assoc]

theorem pcmDone_reconCr (c : Bool) : (p.pcmDone c).mb.pcmRecon.reconCr =
    (List.range 64).map fun j => ((p.br.rbsp.getD (p.br.pcmByte + (320 + j)) 0).toNat : Int) := by
  have hcr : (p.br.bytes (p.br.pcmByte + 256) 128).drop 64 = p.br.bytes (p.br.pcmByte + 320) 64 := by
    rw [bytes_add _ _ 64 64, List.drop_left' (bytes_length _ _ _)]
  change ((p.br.bytes (p.br.pcmByte + 256) 128).drop 64).map _ = _
  simp only [hcr, bytes_cast, Nat.add_assoc]

theorem pcmDone_br (c : Bool) : (p.pcmDone c).br = { p.br with cursor := p.br.aligned + 3072 + (if c then 9 else 0) } := rfl

end

/-- In CABAC the offset is the byte after the samples and the top bit of the next (R500, R503). -/
theorem pcmDone_offset {p : Ps} (hfit : p.br.aligned + 3072 + 9 ≤ 8 * p.br.rbsp.length) :
    (p.pcmDone true).cabac.offset.toNat =
      2 * (p.br.rbsp.getD (p.br.pcmByte + 384) 0).toNat + (p.br.rbsp.getD (p.br.pcmByte + 385) 0).toNat / 128 := by
  have hcursor : p.pcmRead.br.cursor = 8 * (p.br.pcmByte + 384) := by
    change p.br.aligned + 3072 = _
    rw [aligned_eq, Nat.mul_add]
  exact restarted_offset hcursor hfit

section
variable (c : Csr) (code : Byte) (nal mb pos : Nat)

theorem latched_warnIpcm : (c.latched code nal mb pos).warnIpcm = c.warnIpcm := by
  unfold Csr.latched
  split <;> rfl

theorem latched_errCode {c : Csr} (h : c.errCode = 0) : (c.latched code nal mb pos).errCode = code := by
  rw [Csr.latched, if_pos h]

end

/-- In a slice `E_BITS` is latched and the slice ends (60_exceptions.md R813, R821). -/
theorem raise_bits_inSlice {s : State} (h : s.inSlice = true) :
    (s.raise .bits).csr = { s.csr.latched 1 s.au.nalIndex s.errMb s.br.cursor with sliceErr := true, fsm := .complete } ∧
      (s.raise .bits).au = s.au := by
  have habort : s.raise .bits = (s.record .bits).sliceAbort := if_pos h
  rw [habort, record_eq_latched]
  exact ⟨rfl, rfl⟩

/-- Settles O41, by whether the RBSP holds the samples and, in CABAC, the engine's first bits. -/
theorem pcmMacroblocks : Obligations.PcmMacroblocks := by
  intro i s hi start stop byte
  rw [exec_pcm hi]
  refine ⟨fun hfit => ⟨_, congrArg _ (startPcm_ok hfit), ?_⟩, fun hend hfsm => ?_⟩
  · simp only [afterPcm_mb, afterPcm_csr, afterPcm_tasks, afterPcm_br, afterPcm_cabac, afterPcm_cur, afterPcm_mem,
      afterPcm_fs, afterPcm_au, afterPcm_sl, pcmDone_reconY, pcmDone_reconCb, pcmDone_reconCr, true_and, and_true]
    refine ⟨rfl, rfl, rfl, pcmDone_br _ _, fun hc => ?cavlc, fun hc => ?cabac, afterPcm_ds s _,
      rfl, rfl, rfl, rfl, rfl, rfl, rfl, rfl⟩
    case cavlc => rw [hc]; rfl
    case cabac =>
      have hstop : stop = s.br.aligned + 3072 + 9 := congrArg (s.br.aligned + 3072 + ·) (if_pos hc)
      rw [hc, hstop]
      have hoffset := pcmDone_offset (p := (s.setMbType .iPcm).ps) (hstop ▸ hfit)
      exact ⟨rfl, rfl, rfl, (congrArg _ hoffset).trans (Nat.cast_add _ _)⟩
  · obtain ⟨q, hq⟩ := startPcm_pastEnd hend
    have hslice : (((s.setMbType .iPcm).setBr q.br).setCabac q.cabac).inSlice = true := by
      simp [State.inSlice, hfsm]
    obtain ⟨hcsr, hau⟩ := raise_bits_inSlice hslice
    refine ⟨_, congrArg _ hq, ?sliceErr, ?warning, fun hcode => ?errCode, (raise_frame _ _).mem, hau⟩
    case sliceErr => rw [hcsr]
    case warning => rw [hcsr]; exact latched_warnIpcm _ _ _ _ _
    case errCode => rw [hcsr]; exact latched_errCode _ _ _ _ hcode

end Sys2Proof.Machine
end

section
/-! PROOFS. Intra prediction (47_intra_pred.md): when a mode is legal and what a legal one leaves, each mode's formula in the spec's terms, the reference filter, and the range of what is predicted. -/

namespace Sys2Proof.Machine

/-! ## Blocks and sums -/

theorem block_congr {w h : Nat} {f g : Nat → Nat → Int} (heq : ∀ x y, x < w → y < h → f x y = g x y) :
    block w h f = block w h g := by
  refine List.map_congr_left fun i hi => ?_
  have hlt : i < w * h := List.mem_range.1 hi
  exact heq _ _ (Nat.mod_lt _ (Nat.pos_of_mul_pos_right (Nat.zero_lt_of_lt hlt))) (Nat.div_lt_of_lt_mul hlt)

@[simp] theorem sumTo_zero (f : Nat → Int) : sumTo 0 f = 0 := rfl

@[simp] theorem sumTo_succ (n : Nat) (f : Nat → Int) : sumTo (n + 1) f = sumTo n f + f n := by
  simp [sumTo, List.range_succ]

theorem sumTo_eq_sum (n : Nat) (f : Nat → Int) : sumTo n f = ((List.range n).map f).sum := by
  induction n with
  | zero => rfl
  | succ n ih => simp [List.range_succ, ih]

/-- Within the list, a list of the values of `f` reads as `f`. -/
theorem at0_map_range {n i : Nat} (f : Nat → Int) (hi : i < n) : at0 ((List.range n).map f) i = f i := by
  simp [at0, hi]

/-! ## Legality (R621) -/

section
variable (p : IntraNb)

@[simp] theorem needNone_met : needNone.met p = true := rfl
@[simp] theorem needTop_met : needTop.met p = p.hasTop := by simp [Need.met, needTop]
@[simp] theorem needLeft_met : needLeft.met p = p.hasLeft := by simp [Need.met, needLeft]
@[simp] theorem needAll_met : needAll.met p = (p.hasTop && p.hasLeft && p.hasCorner) := by simp [Need.met, needAll]

end

theorem needAll_met_of {p : IntraNb} (ht : p.hasTop = true) (hl : p.hasLeft = true) (hc : p.hasCorner = true) :
    needAll.met p = true := by
  simp [ht, hl, hc]

theorem needAll_unmet {p : IntraNb} (h : p.hasTop = false ∨ p.hasLeft = false ∨ p.hasCorner = false) :
    needAll.met p = false := by
  rcases h with h | h | h <;> simp [h]

section
variable {s : State} {plane n x0 y0 : Nat} {p : IntraNb} {need : Need} {f : IntraNb → Nat → Nat → Int}

/-- A legal mode changes its block of the prediction and nothing else. -/
theorem predBlock_legal (hmet : need.met p = true) :
    s.predBlock plane n x0 y0 p need f = s.setWk (s.wk.setPred plane x0 y0 n n (block n n (f p))) := if_pos hmet

/-- A mode whose samples are missing raises `E_INVALID`. -/
theorem predBlock_illegal (hunmet : need.met p = false) : s.predBlock plane n x0 y0 p need f = s.raise .invalid :=
  if_neg (Bool.eq_false_iff.1 hunmet)

/-- The block of a legal mode, by a formula that agrees with the mode's inside the block. -/
theorem predBlock_eq {g : Nat → Nat → Int} (hmet : need.met p = true) (heq : ∀ x y, x < n → y < n → f p x y = g x y) :
    s.predBlock plane n x0 y0 p need f = s.setWk (s.wk.setPred plane x0 y0 n n (block n n g)) := by
  rw [predBlock_legal hmet, block_congr heq]

end

/-- Settles O49: every mode is a prediction of its block, which raises exactly when its need is not met. -/
theorem illegalIntraModes : Obligations.IllegalIntraModes := by
  intro s
  refine ⟨?top4, ?left4, ?all4, ?top8, ?left8, ?all8, fun h => ?top16, fun h => ?left16, fun h => ?all16,
    fun h => ?topC, fun h => ?leftC, fun h => ?allC, ?dc⟩
  case top4 | top8 =>
    rintro i (rfl | rfl | rfl) h
    all_goals exact congrArg _ (predBlock_illegal ((needTop_met _).trans h))
  case left4 | left8 =>
    rintro i (rfl | rfl) h
    all_goals exact congrArg _ (predBlock_illegal ((needLeft_met _).trans h))
  case all4 | all8 =>
    rintro i (rfl | rfl | rfl) h
    all_goals exact congrArg _ (predBlock_illegal (needAll_unmet h))
  case top16 | topC => exact congrArg _ (predBlock_illegal ((needTop_met _).trans h))
  case left16 | leftC => exact congrArg _ (predBlock_illegal ((needLeft_met _).trans h))
  case all16 | allC => exact congrArg _ (predBlock_illegal (needAll_unmet h))
  case dc =>
    simp only [List.forall_mem_cons, List.not_mem_nil, false_implies, implies_true, and_true]
    and_intros
    all_goals exact ⟨_, congrArg Host.Outcome.next (predBlock_legal (needNone_met _)), rfl⟩

/-! ## The formulas of the modes (R626-R634, R641-R649) -/

/-- The choice of the modes that walk in steps of two along one edge and turn at the corner: by the sign and the parity of `z`, with a value of its own at -1. -/
def byZ (z even odd turn past : Int) : Int :=
  if z < -1 then past else if z = -1 then turn else if z % 2 = 0 then even else odd

/-- The choice in the spec's order: even places, odd ones, the turn, what is past it. -/
theorem byZ_eq_ite {z even odd turn past : Int} {P Q R : Prop} [Decidable P] [Decidable Q] [Decidable R]
    (heven : P ↔ 0 ≤ z ∧ z % 2 = 0) (hodd : ¬P → (Q ↔ 0 ≤ z)) (hturn : R ↔ z = -1) :
    byZ z even odd turn past = if P then even else if Q then odd else if R then turn else past := by
  by_cases hP : P
  · obtain ⟨hz, hpar⟩ := heven.1 hP
    rw [byZ, if_neg (by omega), if_neg (by omega), if_pos hpar, if_pos hP]
  by_cases hQ : Q
  · have hz := (hodd hP).1 hQ
    have hpar : z % 2 ≠ 0 := fun hpar => hP (heven.2 ⟨hz, hpar⟩)
    rw [byZ, if_neg (by omega), if_neg (by omega), if_neg hpar, if_neg hP, if_pos hQ]
  have hz : ¬0 ≤ z := fun hz => hQ ((hodd hP).2 hz)
  rw [if_neg hP, if_neg hQ, byZ]
  by_cases hR : R
  · have hz := hturn.1 hR
    rw [if_neg (by omega), if_pos hz, if_pos hR]
  · have hne := mt hturn.2 hR
    rw [if_pos (by omega), if_neg hR]

section
variable (p : IntraNb) (x y : Nat)

theorem cornerTap_eq : p.cornerTap = (p.l 0 + 2 * p.corner + p.t 0 + 2) / 4 := by
  rw [show p.l 0 + 2 * p.corner + p.t 0 = p.t 0 + 2 * p.corner + p.l 0 by ring]
  rfl

theorem predDiagDownRight_eq : predDiagDownRight p x y =
    if (x : Int) > y then (p.t (x - y - 2) + 2 * p.t (x - y - 1) + p.t (x - y) + 2) / 4
    else if (x : Int) < y then (p.l (y - x - 2) + 2 * p.l (y - x - 1) + p.l (y - x) + 2) / 4
    else (p.t 0 + 2 * p.corner + p.l 0 + 2) / 4 := by
  simp only [predDiagDownRight, neg_sub]
  exact if_congr (by omega) rfl (if_congr (by omega) rfl rfl)

theorem predVerticalRight_eq : predVerticalRight p x y = byZ (2 * x - y)
    ((p.t (x - y / 2 - 1) + p.t (x - y / 2) + 1) / 2)
    ((p.t (x - y / 2 - 2) + 2 * p.t (x - y / 2 - 1) + p.t (x - y / 2) + 2) / 4)
    ((p.l 0 + 2 * p.corner + p.t 0 + 2) / 4)
    ((p.l (y - 2 * x - 1) + 2 * p.l (y - 2 * x - 2) + p.l (y - 2 * x - 3) + 2) / 4) := by
  simp only [predVerticalRight, neg_sub, cornerTap_eq]
  rfl

theorem predHorizontalDown_eq : predHorizontalDown p x y = byZ (2 * y - x)
    ((p.l (y - x / 2 - 1) + p.l (y - x / 2) + 1) / 2)
    ((p.l (y - x / 2 - 2) + 2 * p.l (y - x / 2 - 1) + p.l (y - x / 2) + 2) / 4)
    ((p.l 0 + 2 * p.corner + p.t 0 + 2) / 4)
    ((p.t (x - 2 * y - 1) + 2 * p.t (x - 2 * y - 2) + p.t (x - 2 * y - 3) + 2) / 4) := by
  simp only [predHorizontalDown, neg_sub, cornerTap_eq]
  rfl

theorem predVerticalLeft_eq {P : Prop} [Decidable P] (heven : y % 2 = 0 ↔ P) : predVerticalLeft p x y =
    if P then (p.t (x + y / 2) + p.t (x + y / 2 + 1) + 1) / 2
    else (p.t (x + y / 2) + 2 * p.t (x + y / 2 + 1) + p.t (x + y / 2 + 2) + 2) / 4 :=
  if_congr heven rfl rfl

/-- The walk of Horizontal_Up down the left edge, `z` counted from its last whole step. -/
theorem predHorizontalUp_eq {n : Nat} (hn : 2 ≤ n) : predHorizontalUp n p x y = byZ (2 * n - 4 - (x + 2 * y))
    ((p.l (y + x / 2) + p.l (y + x / 2 + 1) + 1) / 2)
    ((p.l (y + x / 2) + 2 * p.l (y + x / 2 + 1) + p.l (y + x / 2 + 2) + 2) / 4)
    ((p.l (n - 2) + 3 * p.l (n - 1) + 2) / 4)
    (p.l (n - 1)) :=
  if_congr (by omega) rfl (if_congr (by omega) rfl (if_congr (by omega) rfl rfl))

theorem predDc_four : predDc 2 p x y =
    if p.hasTop ∧ p.hasLeft then (p.t 0 + p.t 1 + p.t 2 + p.t 3 + (p.l 0 + p.l 1 + p.l 2 + p.l 3) + 4) / 8
    else if p.hasTop then (p.t 0 + p.t 1 + p.t 2 + p.t 3 + 2) / 4
    else if p.hasLeft then (p.l 0 + p.l 1 + p.l 2 + p.l 3 + 2) / 4 else 128 := by
  simp [predDc, sar]

end

/-- Settles O45: each mode is legal where its samples are, and its formula is the spec's inside the block. -/
theorem intra4x4Modes : Obligations.Intra4x4Modes := by
  intro s p
  refine ⟨fun ht => ?vertical, fun hl => ?horizontal, ?dc, fun ht => ?diagDownLeft, fun ht hl hc => ?diagDownRight,
    fun ht hl hc => ?verticalRight, fun ht hl hc => ?horizontalDown, fun ht => ?verticalLeft, fun hl => ?horizontalUp⟩
  case vertical => exact congrArg _ (predBlock_eq ((needTop_met p).trans ht) fun x y _ _ => rfl)
  case horizontal => exact congrArg _ (predBlock_eq ((needLeft_met p).trans hl) fun x y _ _ => rfl)
  case dc => exact congrArg _ (predBlock_eq (needNone_met p) fun x y _ _ => predDc_four p x y)
  case diagDownLeft =>
    exact congrArg _ (predBlock_eq ((needTop_met p).trans ht) fun x y _ _ => if_congr (by omega) rfl rfl)
  case diagDownRight =>
    exact congrArg _ (predBlock_eq (needAll_met_of ht hl hc) fun x y _ _ => predDiagDownRight_eq p x y)
  case verticalRight =>
    exact congrArg _ (predBlock_eq (needAll_met_of ht hl hc) fun x y _ _ =>
      (predVerticalRight_eq p x y).trans (byZ_eq_ite (by omega) (by omega) Iff.rfl))
  case horizontalDown =>
    exact congrArg _ (predBlock_eq (needAll_met_of ht hl hc) fun x y _ _ =>
      (predHorizontalDown_eq p x y).trans (byZ_eq_ite (by omega) (by omega) Iff.rfl))
  case verticalLeft =>
    exact congrArg _ (predBlock_eq ((needTop_met p).trans ht) fun x y _ _ => predVerticalLeft_eq p x y (by omega))
  case horizontalUp =>
    exact congrArg _ (predBlock_eq ((needLeft_met p).trans hl) fun x y _ _ =>
      (predHorizontalUp_eq p x y (by decide)).trans (byZ_eq_ite (by omega) (by omega) (by omega)))

/-! ## The reference filter of the 8x8 blocks (R640) -/

section
variable (p : IntraNb)

/-- Inside the top row the filter weighs each sample with its two neighbours. -/
theorem filter8_t {x : Int} (hlo : 1 ≤ x) (hhi : x ≤ 14) :
    p.filter8.t x = (p.t (x - 1) + 2 * p.t x + p.t (x + 1) + 2) / 4 := by
  lift x to Nat using by omega
  refine (if_neg (by omega)).trans ((at0_map_range _ (by omega)).trans ?_)
  exact (if_neg (by omega)).trans (if_neg (by omega))

theorem filter8_l {y : Int} (hlo : 1 ≤ y) (hhi : y ≤ 6) :
    p.filter8.l y = (p.l (y - 1) + 2 * p.l y + p.l (y + 1) + 2) / 4 := by
  lift y to Nat using by omega
  refine (if_neg (by omega)).trans ((at0_map_range _ (by omega)).trans ?_)
  exact (if_neg (by omega)).trans (if_neg (by omega))

theorem predDc_eight (x y : Nat) : predDc 3 p x y =
    if p.hasTop ∧ p.hasLeft then (p.t 0 + p.t 1 + p.t 2 + p.t 3 + p.t 4 + p.t 5 + p.t 6 + p.t 7 +
      (p.l 0 + p.l 1 + p.l 2 + p.l 3 + p.l 4 + p.l 5 + p.l 6 + p.l 7) + 8) / 16
    else if p.hasTop then (p.t 0 + p.t 1 + p.t 2 + p.t 3 + p.t 4 + p.t 5 + p.t 6 + p.t 7 + 4) / 8
    else if p.hasLeft then (p.l 0 + p.l 1 + p.l 2 + p.l 3 + p.l 4 + p.l 5 + p.l 6 + p.l 7 + 4) / 8 else 128 := by
  simp [predDc, sar]

end

/-- Settles O46: the modes as in the 4x4 blocks, from the filtered samples, and the filter place by place. -/
theorem intra8x8Modes : Obligations.Intra8x8Modes := by
  refine ⟨fun s => ?modes, fun p => ⟨rfl, rfl, rfl, rfl, fun x => filter8_t p, rfl, rfl, rfl, fun y => filter8_l p, rfl⟩,
    fun s k => rfl⟩
  intro p
  refine ⟨fun ht => ?vertical, fun hl => ?horizontal, ?dc, fun ht => ?diagDownLeft, fun ht hl hc => ?diagDownRight,
    fun ht hl hc => ?verticalRight, fun ht hl hc => ?horizontalDown, fun ht => ?verticalLeft, fun hl => ?horizontalUp⟩
  case vertical => exact congrArg _ (predBlock_eq ((needTop_met p).trans ht) fun x y _ _ => rfl)
  case horizontal => exact congrArg _ (predBlock_eq ((needLeft_met p).trans hl) fun x y _ _ => rfl)
  case dc => exact congrArg _ (predBlock_eq (needNone_met p) fun x y _ _ => predDc_eight p x y)
  case diagDownLeft =>
    exact congrArg _ (predBlock_eq ((needTop_met p).trans ht) fun x y _ _ => if_congr (by omega) rfl rfl)
  case diagDownRight =>
    exact congrArg _ (predBlock_eq (needAll_met_of ht hl hc) fun x y _ _ => predDiagDownRight_eq p x y)
  case verticalRight =>
    exact congrArg _ (predBlock_eq (needAll_met_of ht hl hc) fun x y _ _ =>
      (predVerticalRight_eq p x y).trans (byZ_eq_ite Iff.rfl (by omega) Iff.rfl))
  case horizontalDown =>
    exact congrArg _ (predBlock_eq (needAll_met_of ht hl hc) fun x y _ _ =>
      (predHorizontalDown_eq p x y).trans (byZ_eq_ite Iff.rfl (by omega) Iff.rfl))
  case verticalLeft =>
    exact congrArg _ (predBlock_eq ((needTop_met p).trans ht) fun x y _ _ => predVerticalLeft_eq p x y (by omega))
  case horizontalUp =>
    exact congrArg _ (predBlock_eq ((needLeft_met p).trans hl) fun x y _ _ =>
      (predHorizontalUp_eq p x y (by decide)).trans (byZ_eq_ite (by omega) (by omega) (by omega)))

/-! ## Whole macroblocks and chroma (R651-R654, R661-R664) -/

theorem clip1_eq (v : Int) : clip1 v = max 0 (min 255 v) := clip3_eq (by decide) v

section
variable (p : IntraNb) (x y : Nat)

/-- The spec tries the left edge before the top one and the model after it: where not both are available, at most one is. -/
theorem predDc_sixteen : predDc 4 p x y =
    let sumT := ((List.range 16).map fun (i : Nat) => p.t i).sum
    let sumL := ((List.range 16).map fun (i : Nat) => p.l i).sum
    if p.hasTop ∧ p.hasLeft then (sumT + sumL + 16) / 32 else if p.hasLeft then (sumL + 8) / 16
    else if p.hasTop then (sumT + 8) / 16 else 128 := by
  simp only [predDc, sumTo_eq_sum]
  cases p.hasTop <;> cases p.hasLeft <;> rfl

theorem predPlane_eq {h : Nat} {f : Int} : predPlane h f p x y =
    let hh := ((List.range h).map fun (i : Nat) => ((i : Int) + 1) * (p.t (h + i) - p.t (h - 2 - i))).sum
    let vv := ((List.range h).map fun (i : Nat) => ((i : Int) + 1) * (p.l (h + i) - p.l (h - 2 - i))).sum
    max 0 (min 255 ((16 * (p.l (2 * h - 1) + p.t (2 * h - 1)) + (f * hh + 32) / 64 * (x - (h - 1)) +
      (f * vv + 32) / 64 * (y - (h - 1)) + 16) / 32)) := by
  simp only [predPlane, sumTo_eq_sum, clip1_eq]
  rfl

end

/-- Settles O47: each mode is legal where its samples are, and its formula is the spec's. -/
theorem intra16x16Modes : Obligations.Intra16x16Modes := by
  intro s p
  refine ⟨fun ht => ?vertical, fun hl => ?horizontal, ?dc, fun ht hl hc => ?plane⟩
  case vertical => exact congrArg _ (predBlock_eq ((needTop_met p).trans ht) fun x y _ _ => rfl)
  case horizontal => exact congrArg _ (predBlock_eq ((needLeft_met p).trans hl) fun x y _ _ => rfl)
  case dc => exact congrArg _ (predBlock_eq (needNone_met p) fun x y _ _ => predDc_sixteen p x y)
  case plane => exact congrArg _ (predBlock_eq (needAll_met_of ht hl hc) fun x y _ _ => predPlane_eq p x y)

/-- Four values of `f` from the offset `o` on. -/
theorem sumTo_four_shifted (f : Int → Int) (o : Int) :
    (sumTo 4 fun i => f ((i : Int) + o)) = f o + f (o + 1) + f (o + 2) + f (o + 3) := by
  simp [add_comm o]

/-- The offset of a chroma sample's 4x4 block. -/
theorem chromaOffset_eq {x : Nat} (hx : x < 8) : ((4 * (x / 4) : Nat) : Int) = if (x : Int) < 4 then 0 else 4 := by
  split <;> omega

theorem predChromaDc_eq {p : IntraNb} {x y : Nat} (hx : x < 8) (hy : y < 8) : predChromaDc p x y =
    let xo : Int := if (x : Int) < 4 then 0 else 4
    let yo : Int := if (y : Int) < 4 then 0 else 4
    let st := p.t xo + p.t (xo + 1) + p.t (xo + 2) + p.t (xo + 3)
    let sl := p.l yo + p.l (yo + 1) + p.l (yo + 2) + p.l (yo + 3)
    if xo = yo then
      if p.hasTop ∧ p.hasLeft then (st + sl + 4) / 8 else if p.hasLeft then (sl + 2) / 4
      else if p.hasTop then (st + 2) / 4 else 128
    else if xo = 4 then
      if p.hasTop then (st + 2) / 4 else if p.hasLeft then (sl + 2) / 4 else 128
    else if p.hasLeft then (sl + 2) / 4 else if p.hasTop then (st + 2) / 4 else 128 := by
  simp only [predChromaDc, sumTo_four_shifted, ← chromaOffset_eq hx, ← chromaOffset_eq hy]
  exact if_congr Nat.cast_inj.symm rfl (if_congr (by omega) rfl rfl)

/-- A legal chroma mode changes its component alone. -/
theorem intraChroma_predicts {s : State} {i : Instr} {need : Need} {f : IntraNb → Nat → Nat → Int} {g : Nat → Nat → Int}
    (hexec : exec i s = .next (s.intraChroma need f)) (hmet : need.met (s.nbChroma s.wk.plane) = true)
    (heq : ∀ x y, x < 8 → y < 8 → f (s.nbChroma s.wk.plane) x y = g x y) :
    (s.wk.plane = 1 → exec i s = .next (s.setWk { s.wk with predCb := setBlock s.wk.predCb 8 0 0 8 8 (block 8 8 g) })) ∧
    (s.wk.plane = 2 → exec i s = .next (s.setWk { s.wk with predCr := setBlock s.wk.predCr 8 0 0 8 8 (block 8 8 g) })) := by
  rw [hexec, State.intraChroma, predBlock_eq hmet heq]
  exact ⟨fun hcb => by rw [hcb]; rfl, fun hcr => by rw [hcr]; rfl⟩

/-- Settles O48: each mode is legal where its samples are, and its formula is the spec's for the component in progress. -/
theorem chromaModes : Obligations.ChromaModes := by
  intro s _ p
  refine ⟨?dc, fun hl => ?horizontal, fun ht => ?vertical, fun ht hl hc => ?plane⟩
  case dc => exact intraChroma_predicts rfl (needNone_met p) fun x y hx hy => predChromaDc_eq hx hy
  case horizontal => exact intraChroma_predicts rfl ((needLeft_met p).trans hl) fun x y _ _ => rfl
  case vertical => exact intraChroma_predicts rfl ((needTop_met p).trans ht) fun x y _ _ => rfl
  case plane => exact intraChroma_predicts rfl (needAll_met_of ht hl hc) fun x y _ _ => predPlane_eq p x y

/-! ## The range of the predictions (R665) -/

/-- A value of an 8-bit sample. -/
def IsSample (v : Int) : Prop := 0 ≤ v ∧ v ≤ 255

/-- A shifted sum is a sample when it has eight bits more than the shift. -/
theorem isSample_sar {v : Int} {k : Nat} (hlo : 0 ≤ v) (hhi : v < 256 * 2 ^ k) : IsSample (sar v k) :=
  ⟨Int.ediv_nonneg hlo (by positivity), Int.le_of_lt_add_one (Int.ediv_lt_of_lt_mul (by positivity) hhi)⟩

theorem isSample_clip1 (v : Int) : IsSample (clip1 v) := by
  rw [clip1_eq]
  exact ⟨le_max_left _ _, max_le (by decide) (min_le_left _ _)⟩

theorem isSample_ite {P : Prop} [Decidable P] {a b : Int} (ha : IsSample a) (hb : IsSample b) :
    IsSample (if P then a else b) := by
  split
  · exact ha
  · exact hb

theorem isSample_byZ {z even odd turn past : Int} (heven : IsSample even) (hodd : IsSample odd) (hturn : IsSample turn)
    (hpast : IsSample past) : IsSample (byZ z even odd turn past) :=
  isSample_ite hpast (isSample_ite hturn (isSample_ite heven hodd))

section
variable {a b c : Int} (ha : IsSample a) (hb : IsSample b) (hc : IsSample c)
include ha hb

/-- The rounded average of two samples. -/
theorem isSample_half : IsSample (sar (a + b + 1) 1) := by
  unfold IsSample at ha hb
  exact isSample_sar (by omega) (by omega)

/-- The filter at the end of an edge. -/
theorem isSample_endTap : IsSample (sar (a + 3 * b + 2) 2) := by
  unfold IsSample at ha hb
  exact isSample_sar (by omega) (by omega)

include hc

/-- The filter of three samples in a row. -/
theorem isSample_midTap : IsSample (sar (a + 2 * b + c + 2) 2) := by
  unfold IsSample at ha hb hc
  exact isSample_sar (by omega) (by omega)

end

theorem isSample_at0 {l : List Int} (h : ∀ v ∈ l, IsSample v) (i : Nat) : IsSample (at0 l i) := by
  rw [at0, List.getD_eq_getElem?_getD]
  cases hv : l[i]? with
  | none => exact ⟨le_rfl, by decide⟩
  | some v => exact h v (List.mem_of_getElem? hv)

theorem sumTo_samples {f : Nat → Int} (h : ∀ i, IsSample (f i)) (n : Nat) : 0 ≤ sumTo n f ∧ sumTo n f ≤ 255 * n := by
  induction n with
  | zero => exact ⟨le_rfl, le_rfl⟩
  | succ n ih =>
    obtain ⟨hlo, hhi⟩ := h n
    rw [sumTo_succ]
    omega

/-- The rounded mean of a power of two of samples. -/
theorem isSample_mean {f : Nat → Int} (h : ∀ i, IsSample (f i)) (k : Nat) :
    IsSample (sar (sumTo (2 ^ (k + 1)) f + 2 ^ k) (k + 1)) := by
  obtain ⟨hlo, hhi⟩ := sumTo_samples h (2 ^ (k + 1))
  have hpos : (0 : Int) < 2 ^ k := by positivity
  push_cast [pow_succ] at hlo hhi
  exact isSample_sar (by rw [pow_succ]; omega) (by rw [pow_succ, pow_succ]; omega)

/-- The rounded mean of two rows of samples. -/
theorem isSample_mean_both {f g : Nat → Int} (hf : ∀ i, IsSample (f i)) (hg : ∀ i, IsSample (g i)) (k : Nat) :
    IsSample (sar (sumTo (2 ^ k) f + sumTo (2 ^ k) g + (2 ^ k : Nat)) (k + 1)) := by
  obtain ⟨hflo, hfhi⟩ := sumTo_samples hf (2 ^ k)
  obtain ⟨hglo, hghi⟩ := sumTo_samples hg (2 ^ k)
  have hpos : (0 : Int) < 2 ^ k := by positivity
  push_cast at hfhi hghi ⊢
  exact isSample_sar (by omega) (by rw [pow_succ]; omega)

/-- What a DC mode predicts where no sample is available. -/
theorem isSample_middle : IsSample 128 := ⟨by decide, by decide⟩

section
variable {p : IntraNb} (h : p.samples)
include h

theorem isSample_corner : IsSample p.corner := h.2.2

theorem isSample_t (x : Int) : IsSample (p.t x) := isSample_ite (isSample_corner h) (isSample_at0 h.1 _)

theorem isSample_l (y : Int) : IsSample (p.l y) := isSample_ite (isSample_corner h) (isSample_at0 h.2.1 _)

theorem isSample_cornerTap : IsSample p.cornerTap :=
  isSample_midTap (isSample_t h _) (isSample_corner h) (isSample_l h _)

theorem isSample_topHalf (i j : Int) : IsSample (sar (p.t i + p.t j + 1) 1) := isSample_half (isSample_t h i) (isSample_t h j)

theorem isSample_leftHalf (i j : Int) : IsSample (sar (p.l i + p.l j + 1) 1) := isSample_half (isSample_l h i) (isSample_l h j)

theorem isSample_topTap (i j k : Int) : IsSample (sar (p.t i + 2 * p.t j + p.t k + 2) 2) :=
  isSample_midTap (isSample_t h i) (isSample_t h j) (isSample_t h k)

theorem isSample_leftTap (i j k : Int) : IsSample (sar (p.l i + 2 * p.l j + p.l k + 2) 2) :=
  isSample_midTap (isSample_l h i) (isSample_l h j) (isSample_l h k)

variable (x y : Nat)

theorem isSample_predDiagDownLeft (n : Nat) : IsSample (predDiagDownLeft n p x y) :=
  isSample_ite (isSample_endTap (isSample_t h _) (isSample_t h _)) (isSample_topTap h _ _ _)

theorem isSample_predDiagDownRight : IsSample (predDiagDownRight p x y) :=
  isSample_ite (isSample_topTap h _ _ _) (isSample_ite (isSample_leftTap h _ _ _) (isSample_cornerTap h))

theorem isSample_predVerticalRight : IsSample (predVerticalRight p x y) :=
  isSample_byZ (isSample_topHalf h _ _) (isSample_topTap h _ _ _) (isSample_cornerTap h) (isSample_leftTap h _ _ _)

theorem isSample_predHorizontalDown : IsSample (predHorizontalDown p x y) :=
  isSample_byZ (isSample_leftHalf h _ _) (isSample_leftTap h _ _ _) (isSample_cornerTap h) (isSample_topTap h _ _ _)

theorem isSample_predVerticalLeft : IsSample (predVerticalLeft p x y) :=
  isSample_ite (isSample_topHalf h _ _) (isSample_topTap h _ _ _)

theorem isSample_predHorizontalUp (n : Nat) : IsSample (predHorizontalUp n p x y) :=
  isSample_ite (isSample_l h _) (isSample_ite (isSample_endTap (isSample_l h _) (isSample_l h _))
    (isSample_ite (isSample_leftHalf h _ _) (isSample_leftTap h _ _ _)))

theorem isSample_predDc (k : Nat) : IsSample (predDc (k + 1) p x y) :=
  isSample_ite (isSample_mean_both (fun _ => isSample_t h _) (fun _ => isSample_l h _) (k + 1))
    (isSample_ite (isSample_mean (fun _ => isSample_t h _) k)
      (isSample_ite (isSample_mean (fun _ => isSample_l h _) k) isSample_middle))

theorem isSample_predChromaDc : IsSample (predChromaDc p x y) := by
  have ht (i : Nat) : IsSample (p.t ((i : Int) + (4 * (x / 4) : Nat))) := isSample_t h _
  have hl (i : Nat) : IsSample (p.l ((i : Int) + (4 * (y / 4) : Nat))) := isSample_l h _
  have htop := isSample_mean ht 1
  have hleft := isSample_mean hl 1
  have hboth := isSample_mean_both ht hl 2
  exact isSample_ite (isSample_ite hboth (isSample_ite hleft (isSample_ite htop isSample_middle)))
    (isSample_ite (isSample_ite htop (isSample_ite hleft isSample_middle))
      (isSample_ite hleft (isSample_ite htop isSample_middle)))

end

/-- Settles O50: every mode is a choice between samples and rounded means of samples, or clipped. -/
theorem intraPredictionStaysInRange : Obligations.IntraPredictionStaysInRange := by
  intro p x y h
  simp only [List.forall_mem_cons, List.not_mem_nil, false_implies, implies_true, and_true]
  exact ⟨isSample_t h _, isSample_l h _, isSample_predDc h x y 1, isSample_predDc h x y 2, isSample_predDc h x y 3,
    isSample_predDiagDownLeft h x y 4, isSample_predDiagDownLeft h x y 8, isSample_predDiagDownRight h x y,
    isSample_predVerticalRight h x y, isSample_predHorizontalDown h x y, isSample_predVerticalLeft h x y,
    isSample_predHorizontalUp h x y 4, isSample_predHorizontalUp h x y 8, isSample_clip1 _, isSample_clip1 _,
    isSample_predChromaDc h x y⟩

end Sys2Proof.Machine
end

section
/-! PROOFS. Errors and their scopes (60_exceptions.md R810-R823), reset and SRST (70_reset_and_hazards.md R850, R851), and the NAL command from its submission to its completion (40_bitreader_nal.md R220). -/

namespace Sys2Proof.Machine

/-! ## Errors (60_exceptions.md R810-R823) -/

/-- Settles O21: recording latches the error, and a marking error is recorded at position 0. -/
theorem firstErrorIsLatched : Obligations.FirstErrorIsLatched := by
  intro s e
  refine ⟨?_, recordAt_eq s .mark 0⟩
  cases e <;> exact recordAt_eq ..

/-- The three ways an error leaves: the access unit fails, the slice is aborted, or outside a slice the NAL unit ends. -/
theorem raise_cases (s : State) (e : ErrCode) :
    (s.inSlice = true ∧ (e = .psMissing ∨ e = .noFrame) ∧ s.raise e = (s.record e).auFail) ∨
    (s.inSlice = true ∧ e ≠ .psMissing ∧ e ≠ .noFrame ∧ s.raise e = (s.record e).sliceAbort) ∨
    (s.inSlice = false ∧ s.raise e = (s.record e).abandon) := by
  cases h : s.inSlice with
  | true => cases e <;> simp [State.raise, h]
  | false => simp [State.raise, h]

theorem inSlice_of_open {s : State} (h : s.csr.fsm = .created ∨ s.csr.fsm = .headerParsed ∨ s.csr.fsm = .decoding) :
    s.inSlice = true := by
  rcases h with h | h | h <;> rw [State.inSlice, h]

theorem inSlice_of_closed {s : State} (h : s.csr.fsm = .idle ∨ s.csr.fsm = .complete) : s.inSlice = false := by
  rcases h with h | h <;> rw [State.inSlice, h]

/-- The registers of the first error are those that recording leaves, whatever the scope. -/
theorem raise_registers (s : State) (e : ErrCode) : (s.raise e).csr.errCode = (s.record e).csr.errCode ∧
    (s.raise e).csr.errInfo = (s.record e).csr.errInfo ∧ (s.raise e).csr.errPos = (s.record e).csr.errPos := by
  rcases raise_cases s e with ⟨_, _, h⟩ | ⟨_, _, _, h⟩ | ⟨_, h⟩ <;> rw [h] <;> exact ⟨rfl, rfl, rfl⟩

theorem record_au (s : State) (e : ErrCode) : (s.record e).au = s.au := by rw [record_eq_latched]; rfl

theorem record_csr (s : State) (e : ErrCode) :
    (s.record e).csr = s.csr.latched e.code s.au.nalIndex s.errMb s.br.cursor := by rw [record_eq_latched]; rfl

section
variable {s : State} {e : ErrCode} (hin : s.inSlice = true)
include hin

theorem raise_auFail (he : e = .psMissing ∨ e = .noFrame) : s.raise e = (s.record e).auFail := by
  rcases raise_cases s e with ⟨-, -, h⟩ | ⟨-, hps, hframe, -⟩ | ⟨hout, -⟩
  · exact h
  · exact absurd he (not_or.2 ⟨hps, hframe⟩)
  · exact absurd hin (Bool.eq_false_iff.1 hout)

theorem raise_sliceAbort (hps : e ≠ .psMissing) (hframe : e ≠ .noFrame) : s.raise e = (s.record e).sliceAbort := by
  rcases raise_cases s e with ⟨-, he, -⟩ | ⟨-, -, -, h⟩ | ⟨hout, -⟩
  · exact absurd he (not_or.2 ⟨hps, hframe⟩)
  · exact h
  · exact absurd hin (Bool.eq_false_iff.1 hout)

end

theorem latched_sliceErr (c : Csr) (code : Byte) (nal mb pos : Nat) : (c.latched code nal mb pos).sliceErr = c.sliceErr := by
  unfold Csr.latched
  split <;> rfl

/-- Settles O22, by the three ways an error leaves and what none of them changes. -/
theorem errorScopes : Obligations.ErrorScopes := by
  intro s e
  have frame := raise_frame s e
  obtain ⟨hcode, hinfo, hpos⟩ := raise_registers s e
  refine ⟨raise_tasks s e, hcode, hinfo, hpos, fun hopen => ?inside, fun hclosed => ?outside, frame.mem, frame.fs, frame.sps,
    frame.pps, frame.dbk, by rw [frame.au], by rw [frame.csr], frame.maxLong, frame.savedPools⟩
  case inside =>
    have hin := inSlice_of_open hopen
    obtain ⟨hfsm, hsl, hds, hmb, -⟩ := raise_inSlice s e hin
    refine ⟨hfsm, hsl, hds, hmb, fun he => ?_, fun hps hframe _ => ?_⟩
    · rw [raise_auFail hin he, auFail_csr, record_csr]
      exact ⟨congrArg (fun a : Au => { a with failed := true }) (record_au s e), latched_sliceErr ..⟩
    · rw [raise_sliceAbort hin hps hframe, sliceAbort_csr]
      exact ⟨record_au s e, rfl⟩
  case outside =>
    rw [raise_of_not_inSlice (inSlice_of_closed hclosed), ← errMb_of_not_inSlice (inSlice_of_closed hclosed), ← record_eq_latched]
    rfl

/-! ## Reset (70_reset_and_hazards.md R850, R851) -/

/-- Settles O11: each row is a field of the reset state, and its tables hold one value throughout. -/
theorem resetLeaves : Obligations.ResetLeaves := by
  refine ⟨rfl, rfl, rfl, rfl, by decide, rfl, rfl, rfl, rfl, rfl, rfl, rfl, rfl, fun f hf => ?frames, rfl, rfl, rfl, rfl, rfl, rfl, rfl,
    rfl, rfl, rfl, rfl, rfl, fun _ => rfl, rfl, rfl, rfl, rfl, fun d hd => ?records, rfl⟩
  case frames =>
    obtain rfl : f = Frame.free := List.eq_of_mem_replicate hf
    decide
  case records =>
    obtain rfl : d = Dbk.empty := List.eq_of_mem_replicate hd
    exact ⟨rfl, rfl⟩

/-- SRST leaves of each frame its motion alone. -/
theorem softReset_frame (s : State) (h : Nat) :
    s.softReset.frame h = { Frame.free with motion := (s.frame h).motion } := by
  rw [State.frame, State.frame, softReset_fs, List.getD_eq_getElem?_getD, List.getD_eq_getElem?_getD, List.getElem?_map]
  cases s.fs[h]? <;> rfl

/-- Settles O15, by the fields of the state after the reset. -/
theorem softReset : Obligations.SoftReset := by
  intro s
  have hdbk : ∀ d ∈ s.softReset.dbk, d = Dbk.empty := fun d hd => by
    obtain ⟨_, _, rfl⟩ := List.mem_map.1 hd
    rfl
  exact ⟨s.softReset, rfl, rfl, rfl, rfl, rfl, rfl, rfl, List.length_map _, softReset_frame s, softReset_frame s 0, rfl, rfl, rfl, rfl,
    rfl, hdbk, List.length_map _, rfl, rfl, rfl, rfl⟩

/-! ## The NAL command (40_bitreader_nal.md R220 steps 1-3, 7; 60_exceptions.md R830) -/

theorem startAu_ended {s : State} (h : s.au.ended = true) :
    s.startAu = (s.setCsr s.csr.clearForAu).setAu { s.au with ended := false, mbInfo := [] } := if_pos h

theorem startAu_begun {s : State} (h : s.au.ended = false) : s.startAu = s := if_neg (Bool.eq_false_iff.1 h)

/-- A NAL command once it is taken: busy, and with its access unit begun. -/
def State.nalBegun (s : State) : State := s.setBusy.startAu

section
variable (s : State)

theorem nalBegun_csr : s.nalBegun.csr = { (if s.au.ended then s.csr.clearForAu else s.csr) with busy := true } := by
  cases h : s.au.ended with
  | true => rw [State.nalBegun, startAu_ended (s := s.setBusy) h]; rfl
  | false => rw [State.nalBegun, startAu_begun (s := s.setBusy) h]; rfl

/-- An access unit that has begun is left as it is. -/
theorem Au.begun_eq {a : Au} (h : a.ended = false) : { a with ended := false } = a := by
  cases a
  cases h
  rfl

theorem nalBegun_au :
    s.nalBegun.au = { s.au with ended := false, mbInfo := if s.au.ended then [] else s.au.mbInfo } := by
  cases h : s.au.ended with
  | true => rw [State.nalBegun, startAu_ended (s := s.setBusy) h]; rfl
  | false => rw [State.nalBegun, startAu_begun (s := s.setBusy) h]; exact (Au.begun_eq h).symm

/-- Nothing but the registers, the access unit and the registers' former values differs. -/
theorem nalBegun_eq : s.nalBegun = ((s.setBus s.setBusy.bus).setCsr s.nalBegun.csr).setAu s.nalBegun.au := by
  cases h : s.au.ended with
  | true => rw [State.nalBegun, startAu_ended (s := s.setBusy) h]; rfl
  | false => rw [State.nalBegun, startAu_begun (s := s.setBusy) h]; rfl

/-- The submission is judged by NAL_ADDR and NAL_LEN, which the beginning leaves. -/
theorem nalBegun_submission : s.nalBegun.submission = s.submission := by
  rw [nalBegun_eq]
  simp only [State.submission, setAu_csr, setCsr_csr, setAu_params, setCsr_params, setBus_params, nalBegun_csr]
  cases s.au.ended <;> rfl

variable {s}

theorem startNalCmd_accepted (h : s.submission = none) : s.startNalCmd = s.nalBegun.setTasks [.fetch .nalHdr, .nalDone] := by
  have h' : s.setBusy.startAu.submission = none := (nalBegun_submission s).trans h
  simp only [State.startNalCmd, State.nalBegun, h']

theorem startNalCmd_rejected {e : ErrCode} (h : s.submission = some e) :
    s.startNalCmd = (s.nalBegun.record e).setTasks [.nalDone] := by
  have h' : s.setBusy.startAu.submission = some e := (nalBegun_submission s).trans h
  simp only [State.startNalCmd, State.nalBegun, h']

theorem submission_legal (hlen : 1 ≤ s.csr.nalLen.toNat) (hmax : s.csr.nalLen.toNat ≤ s.params.maxNalBytes)
    (htop : s.csr.nalAddr.toNat + s.csr.nalLen.toNat ≤ 2 ^ s.params.addrW) : s.submission = none := by
  rw [State.submission, if_neg (by omega), if_neg (by omega)]

theorem submission_unsupported (h : s.csr.nalLen.toNat > s.params.maxNalBytes ∨
    s.csr.nalAddr.toNat + s.csr.nalLen.toNat > 2 ^ s.params.addrW) : s.submission = some .unsupported := if_pos h

theorem submission_empty (hlen : s.csr.nalLen = 0) (haddr : s.csr.nalAddr.toNat ≤ 2 ^ s.params.addrW) :
    s.submission = some .bits := by
  have hzero : s.csr.nalLen.toNat = 0 := by rw [hlen]; rfl
  rw [State.submission, if_neg (by omega), if_pos hzero]

/-- A rejected command records its error unless the access unit holds one already, and only its completion is left. -/
theorem startNalCmd_rejected_errCode {e : ErrCode} (h : s.submission = some e) :
    s.startNalCmd.tasks = [.nalDone] ∧ (s.au.ended = true ∨ s.csr.errCode = 0 → s.startNalCmd.csr.errCode = e.code) ∧
      (s.au.ended = false → s.csr.errCode ≠ 0 → s.startNalCmd.csr.errCode = s.csr.errCode) := by
  have hcode : s.nalBegun.csr.errCode = if s.au.ended then 0 else s.csr.errCode := by
    rw [nalBegun_csr]
    cases s.au.ended <;> rfl
  rw [startNalCmd_rejected h, setTasks_csr, record_csr]
  refine ⟨rfl, fun hnone => latched_errCode _ _ _ _ ?_, fun hbegun herr => ?_⟩
  · rw [hcode]
    rcases hnone with hended | hzero
    · rw [hended]; rfl
    · rw [hzero, ite_self]
  · have hheld : s.nalBegun.csr.errCode = s.csr.errCode := by rw [hcode, hbegun]; rfl
    rw [Csr.latched, if_neg (hheld ▸ herr), hheld]

variable (s)

/-- Accepted or rejected, a NAL command begins its access unit; it changes no more than the error registers and the pending work. -/
theorem startNalCmd_eq : ∃ c ts, s.startNalCmd = (s.nalBegun.setCsr c).setTasks ts ∧ c.busy = s.nalBegun.csr.busy ∧
    c.sliceErr = s.nalBegun.csr.sliceErr ∧ c.nalCount = s.nalBegun.csr.nalCount ∧ c.cmdErr = s.nalBegun.csr.cmdErr := by
  cases h : s.submission with
  | none => exact ⟨_, _, startNalCmd_accepted h, rfl, rfl, rfl, rfl⟩
  | some e =>
    refine ⟨_, _, (startNalCmd_rejected h).trans (by rw [record_eq_latched]), ?_⟩
    unfold Csr.latched
    split <;> exact ⟨rfl, rfl, rfl, rfl⟩

end

/-- Settles O16, by what the submission checks answer and by the completion's own step. -/
theorem nalCommandRuns : Obligations.NalCommandRuns := by
  refine ⟨fun s hlen hmax htop => ?accepted, fun s => ⟨s.startNalCmd, rfl, fun hover => ?tooLong, fun hempty haddr => ?empty, ?kept⟩,
    fun s ts hdue => step_due hdue⟩
  case accepted =>
    refine congrArg Host.Outcome.next ?_
    rw [startNalCmd_accepted (submission_legal hlen hmax htop), nalBegun_eq, nalBegun_csr, nalBegun_au]
    cases s.au.ended <;> rfl
  case tooLong => exact startNalCmd_rejected_errCode (submission_unsupported hover)
  case empty =>
    obtain ⟨htasks, hcode, -⟩ := startNalCmd_rejected_errCode (submission_empty hempty haddr)
    exact ⟨htasks, hcode⟩
  case kept =>
    obtain ⟨c, ts, heq, hbusy, hslice, hcount, hcmd⟩ := startNalCmd_eq s
    rw [heq, setTasks_csr, setCsr_csr, hbusy, hslice, hcount, hcmd, nalBegun_eq, nalBegun_csr, nalBegun_au]
    cases s.au.ended
    · exact ⟨rfl, (Bool.and_true _).symm, rfl, rfl, rfl, rfl, rfl, rfl, rfl⟩
    · exact ⟨rfl, (Bool.and_false _).symm, rfl, rfl, rfl, rfl, rfl, rfl, rfl⟩

end Sys2Proof.Machine
end

section
/-! PROOFS. Interpolation (48_interp_transform.md R681-R691): the six-tap filter and the half samples in the spec's terms, the luma phases and their range, and the chroma phases. -/

namespace Sys2Proof.Machine

/-! ## The six-tap filter (R681) -/

theorem tap_eq (a b c d e f : Int) : tap a b c d e f = a - 5 * b + 20 * c + 20 * d - 5 * e + f := by
  simp only [tap, shl]
  omega

theorem half_eq (v : Int) : half v = max 0 (min 255 ((v + 16) / 32)) := clip1_eq _

section
variable (r : Samples) (x y : Int)

theorem tapH_eq : tapH r x y =
    r (x - 2) y - 5 * r (x - 1) y + 20 * r x y + 20 * r (x + 1) y - 5 * r (x + 2) y + r (x + 3) y := tap_eq ..

theorem tapV_eq : tapV r x y =
    r x (y - 2) - 5 * r x (y - 1) + 20 * r x y + 20 * r x (y + 1) - 5 * r x (y + 2) + r x (y + 3) := tap_eq ..

/-- The centre half sample filters the unrounded horizontal sums. -/
theorem halfJ_eq : halfJ r x y = clip1 ((tapH r x (y - 2) - 5 * tapH r x (y - 1) + 20 * tapH r x y + 20 * tapH r x (y + 1)
    - 5 * tapH r x (y + 2) + tapH r x (y + 3) + 512) / 1024) := by
  rw [halfJ, tap_eq]
  rfl

/-- Filtering columns first and then the row of their sums gives the same centre half sample. -/
theorem halfJ_columnsFirst : halfJ r x y = clip1 ((tapV r (x - 2) y - 5 * tapV r (x - 1) y + 20 * tapV r x y
    + 20 * tapV r (x + 1) y - 5 * tapV r (x + 2) y + tapV r (x + 3) y + 512) / 1024) := by
  rw [halfJ_eq]
  simp only [tapH_eq, tapV_eq]
  congr 3
  ring

end

/-! ## The luma phases (R682, R683) -/

/-- A luma phase predicts the partition in progress, by a formula that agrees with the phase's. -/
theorem predLuma_eq {s : State} {i : Instr} {phase : Samples → Int → Int → Int} {g : Int → Int → Int}
    (hexec : exec i s = .next (s.predLumaBlock phase)) (heq : ∀ x y, phase (s.refSamples 0) x y = g x y) :
    exec i s = .next (s.setWk (s.wk.setPartPred 0 (block s.wk.part.w s.wk.part.h fun x y =>
      g ((16 * s.mbX + s.wk.part.x : Nat) + s.partMotion.mv.x / 4 + x) ((16 * s.mbY + s.wk.part.y : Nat) + s.partMotion.mv.y / 4 + y)))) := by
  rw [hexec, State.predLumaBlock]
  simp only [heq]
  rfl

/-- Settles O51: each phase is a sample, a half sample or the average of two of them. -/
theorem lumaPhases : Obligations.LumaPhases := by
  intro s f r clip b1 h1 j1 b h j q x0 y0 predicts
  have hb1 (x y : Int) : tapH (s.refSamples 0) x y = b1 x y := tapH_eq ..
  have hb (x y : Int) : halfB (s.refSamples 0) x y = b x y := by rw [halfB, half_eq, hb1]
  have hh (x y : Int) : halfH (s.refSamples 0) x y = h x y := by rw [halfH, half_eq, tapV_eq]; rfl
  have hj (x y : Int) : halfJ (s.refSamples 0) x y = j x y := by rw [halfJ_eq, clip1_eq]; simp only [hb1]; rfl
  have hp {i : Instr} {g : Int → Int → Int} (phase : Samples → Int → Int → Int) (hexec : exec i s = .next (s.predLumaBlock phase))
      (heq : ∀ x y, phase (s.refSamples 0) x y = g x y) : predicts i g := predLuma_eq hexec heq
  exact ⟨hp phase00 rfl fun _ _ => rfl, hp phase01 rfl fun x y => congrArg (avg _) (hh x y), hp phase02 rfl hh,
    hp phase03 rfl fun x y => congrArg (avg _) (hh x y), hp phase10 rfl fun x y => congrArg (avg _) (hb x y),
    hp phase11 rfl fun x y => congrArg₂ avg (hb x y) (hh x y), hp phase12 rfl fun x y => congrArg₂ avg (hh x y) (hj x y),
    hp phase13 rfl fun x y => congrArg₂ avg (hh x y) (hb x (y + 1)), hp phase20 rfl hb,
    hp phase21 rfl fun x y => congrArg₂ avg (hb x y) (hj x y), hp phase22 rfl hj,
    hp phase23 rfl fun x y => congrArg₂ avg (hj x y) (hb x (y + 1)), hp phase30 rfl fun x y => congrArg (avg _) (hb x y),
    hp phase31 rfl fun x y => congrArg₂ avg (hb x y) (hh (x + 1) y), hp phase32 rfl fun x y => congrArg₂ avg (hj x y) (hh (x + 1) y),
    hp phase33 rfl fun x y => congrArg₂ avg (hh (x + 1) y) (hb x (y + 1))⟩

theorem isSample_avg {a b : Int} (ha : IsSample a) (hb : IsSample b) : IsSample (avg a b) := isSample_half ha hb

/-- Settles O52: a phase is a sample, a clipped half sample or an average of two of them. -/
theorem lumaFilterIsSeparableAndInRange : Obligations.LumaFilterIsSeparableAndInRange := by
  refine fun r x y => ⟨halfJ_columnsFirst r x y, fun h => ?_⟩
  have hr (x y : Int) : IsSample (r x y) := h x y
  have hb : IsSample (halfB r x y) := isSample_clip1 _
  have hh : IsSample (halfH r x y) := isSample_clip1 _
  have hs : IsSample (halfS r x y) := isSample_clip1 _
  have hm : IsSample (halfM r x y) := isSample_clip1 _
  have hj : IsSample (halfJ r x y) := isSample_clip1 _
  simp only [List.forall_mem_cons, List.not_mem_nil, false_implies, implies_true, and_true]
  exact ⟨hr x y, isSample_avg (hr x y) hh, hh, isSample_avg (hr x (y + 1)) hh, isSample_avg (hr x y) hb, isSample_avg hb hh,
    isSample_avg hh hj, isSample_avg hh hs, hb, isSample_avg hb hj, hj, isSample_avg hj hs, isSample_avg (hr (x + 1) y) hb,
    isSample_avg hb hm, isSample_avg hj hm, isSample_avg hm hs⟩

/-! ## The chroma phases (R691) -/

/-- An operation CPEL_CHROMA predicts with the eighths that its code holds (30_encoding.md R151). -/
theorem exec_cpel : ∀ p ∈ cpelOps, ∀ s : State,
    exec p.1 s = .next (s.predChromaBlock (p.2 / 8 : Nat) (p.2 % 8 : Nat)) := by
  simp only [cpelOps, List.forall_mem_cons, List.not_mem_nil, false_implies, implies_true, and_true]
  and_intros
  all_goals exact fun _ => rfl

/-- Settles O53: the 64 operations run one formula. -/
theorem chromaPhases : Obligations.ChromaPhases := exec_cpel

end Sys2Proof.Machine
end

section
/-! PROOFS. The transforms and the reconstruction (48_interp_transform.md R730-R740): scaling in the spec's terms, a transform on rows and then on columns, blocks without or with only a DC coefficient, the DC transforms, and the block that reconstruction replaces. -/

namespace Sys2Proof.Machine

/-! ## Lists of levels and blocks of values -/

theorem mapIdx_map_range {α β : Type} (f : Nat → α) (g : Nat → α → β) (n : Nat) :
    ((List.range n).map f).mapIdx g = (List.range n).map fun i => g i (f i) :=
  List.ext_getElem (by simp) fun i _ _ => by simp

theorem block_map (w h : Nat) (f : Nat → Nat → Int) (g : Int → Int) : (block w h f).map g = block w h fun x y => g (f x y) :=
  List.map_map

theorem block_const (w h : Nat) (c : Int) : (block w h fun _ _ => c) = List.replicate (w * h) c := by
  simp [block]

theorem at0_block {w h x y : Nat} (f : Nat → Nat → Int) (hx : x < w) (hy : y < h) : at0 (block w h f) (y * w + x) = f x y := by
  have hlt : y * w + x < w * h := Nat.mul_comm h w ▸ row_major_lt hx hy
  rw [block, at0_map_range _ hlt, Nat.mul_comm y w, Nat.mul_add_mod, Nat.mod_eq_of_lt hx, Nat.mul_add_div (by omega),
    Nat.div_eq_of_lt hx, Nat.add_zero]

/-! ## Scaling (R730 steps 1-2, R732, R735) -/

theorem scaleCoef_eq (t qp : Nat) (ls c : Int) : scaleCoef t qp ls c =
    if qp ≥ 6 * t then c * ls * 2 ^ (qp / 6 - t) else (c * ls + 2 ^ (t - 1 - qp / 6)) / 2 ^ (t - qp / 6) :=
  if_congr (by omega) rfl rfl

/-- Scaling keeps a zero coefficient zero: the rounding term is half of the divisor. -/
theorem scaleCoef_zero (t qp : Nat) (ls : Int) : scaleCoef t qp ls 0 = 0 := by
  rw [scaleCoef_eq]
  split
  · simp
  · rename_i hlow
    rw [Int.zero_mul, Int.zero_add]
    exact Int.ediv_eq_zero_of_lt (by positivity) (pow_lt_pow_right₀ (by decide) (by omega))

theorem dequant4_eq (ls : List Int) (qp : Nat) (dcDone : Bool) (l : List Int) :
    dequant4 ls qp dcDone l = (List.range 16).map fun r =>
      if dcDone ∧ r = 0 then at0 l (zz4.idxOf r) else scaleCoef 4 qp (at0 ls r) (at0 l (zz4.idxOf r)) :=
  mapIdx_map_range ..

theorem dequant8_eq (ls : List Int) (qp : Nat) (l : List Int) :
    dequant8 ls qp l = (List.range 64).map fun r => scaleCoef 6 qp (at0 ls r) (at0 l (zz8.idxOf r)) :=
  mapIdx_map_range ..

/-! ## A transform on rows, then on columns (R730 step 3, R732, R735 step 3) -/

/-- The transform reads the first `n` values alone. -/
def ReadsBelow (n : Nat) (t : (Nat → Int) → List Int) : Prop := ∀ d d' : Nat → Int, (∀ k, k < n → d k = d' k) → t d = t d'

theorem rowsThenColumns_eq {n : Nat} {t : (Nat → Int) → List Int} (ht : ReadsBelow n t) (d : List Int) :
    rowsThenColumns n t d = block n n fun x y => at0 (t fun k => at0 (t fun j => at0 d (n * k + j)) x) y := by
  unfold rowsThenColumns
  refine block_congr fun x y hx _ => ?_
  simp only [List.getD_eq_getElem?_getD, List.getElem?_map, List.getElem?_range hx, Option.map_some, Option.getD_some]
  refine congrArg (at0 · y) (ht _ _ fun k hk => ?_)
  simp only [List.getElem?_range hk, Option.map_some, Option.getD_some]

theorem readsBelow_t4 : ReadsBelow 4 t4 := fun d d' h => by
  simp only [t4, h 0 (by decide), h 1 (by decide), h 2 (by decide), h 3 (by decide)]

theorem readsBelow_had4 : ReadsBelow 4 had4 := fun d d' h => by
  simp only [had4, h 0 (by decide), h 1 (by decide), h 2 (by decide), h 3 (by decide)]

theorem readsBelow_t8 : ReadsBelow 8 t8 := fun d d' h => by
  simp only [t8, h 0 (by decide), h 1 (by decide), h 2 (by decide), h 3 (by decide), h 4 (by decide), h 5 (by decide),
    h 6 (by decide), h 7 (by decide)]

/-! ## The 4x4 residual (R730, R739, R740) -/

/-- The spec's 1-D transform of four values, value by value. -/
def transform4 (d : Nat → Int) (k : Nat) : Int :=
  if k = 0 then d 0 + d 2 + (d 1 + d 3 / 2) else if k = 1 then d 0 - d 2 + (d 1 / 2 - d 3)
  else if k = 2 then d 0 - d 2 - (d 1 / 2 - d 3) else d 0 + d 2 - (d 1 + d 3 / 2)

theorem at0_t4 (d : Nat → Int) {k : Nat} (hk : k < 4) : at0 (t4 d) k = transform4 d k := by
  match k, hk with
  | 0, _ | 1, _ | 2, _ | 3, _ => rfl

/-- Without other values than the first the transform repeats it. -/
theorem transform4_dc {d : Nat → Int} (h : ∀ k, 1 ≤ k → k < 4 → d k = 0) (k : Nat) : transform4 d k = d 0 := by
  rw [transform4, h 1 (by decide) (by decide), h 2 (by decide) (by decide), h 3 (by decide) (by decide)]
  simp

theorem idct4_eq (d : List Int) : idct4 d =
    block 4 4 fun x y => (transform4 (fun k => transform4 (fun j => at0 d (4 * k + j)) x) y + 32) / 64 := by
  rw [idct4, rowsThenColumns_eq readsBelow_t4, block_map]
  refine block_congr fun x y hx hy => ?_
  simp only [at0_t4 _ hx, at0_t4 _ hy]
  rfl

/-- A block with only a DC coefficient has a flat residual (R740). -/
theorem idct4_flat {d : List Int} (h : ∀ k, 1 ≤ k → k < 16 → at0 d k = 0) :
    idct4 d = List.replicate 16 (roundRes (at0 d 0)) := by
  have hrow (k x : Nat) (hk : k < 4) : transform4 (fun j => at0 d (4 * k + j)) x = at0 d (4 * k) :=
    transform4_dc (fun j h1 h4 => h _ (by omega) (by omega)) x
  have hcol (x y : Nat) : transform4 (fun k => transform4 (fun j => at0 d (4 * k + j)) x) y = at0 d 0 := by
    rw [transform4_dc fun k h1 h4 => (hrow k x h4).trans (h _ (by omega) (by omega)), hrow 0 x (by decide)]
  rw [idct4_eq]
  simp only [hcol]
  exact block_const 4 4 _

/-- The places of a scan other than the first hold the other coefficients. -/
theorem zz4_idxOf_ac : ∀ r, 1 ≤ r → r < 16 → 1 ≤ zz4.idxOf r ∧ zz4.idxOf r < 16 := by
  have hall : ∀ r < 16, 1 ≤ r → 1 ≤ zz4.idxOf r ∧ zz4.idxOf r < 16 := by decide
  exact fun r h1 h16 => hall r h16 h1

theorem dequant4_ac {ls l : List Int} {qp : Nat} {dcDone : Bool} (h : ∀ k, 1 ≤ k → k < 16 → at0 l k = 0) :
    ∀ r, 1 ≤ r → r < 16 → at0 (dequant4 ls qp dcDone l) r = 0 := by
  intro r h1 h16
  obtain ⟨hlo, hhi⟩ := zz4_idxOf_ac r h1 h16
  rw [dequant4_eq, at0_map_range _ h16, if_neg (by omega), h _ hlo hhi, scaleCoef_zero]

theorem at0_of_zeros {l : List Int} (h : ∀ v ∈ l, v = 0) (i : Nat) : at0 l i = 0 := by
  rw [at0, List.getD_eq_getElem?_getD]
  cases hi : l[i]? with
  | none => rfl
  | some v => exact h v (List.mem_of_getElem? hi)

theorem dequant4_zero {ls l : List Int} {qp : Nat} {dcDone : Bool} (h : ∀ v ∈ l, v = 0) :
    dequant4 ls qp dcDone l = List.replicate 16 0 := by
  simp only [dequant4_eq, at0_of_zeros h, scaleCoef_zero, ite_self]
  rfl

theorem dequant8_zero {ls l : List Int} {qp : Nat} (h : ∀ v ∈ l, v = 0) : dequant8 ls qp l = List.replicate 64 0 := by
  simp only [dequant8_eq, at0_of_zeros h, scaleCoef_zero]
  rfl

theorem idct4_zero : idct4 (List.replicate 16 0) = List.replicate 16 0 :=
  idct4_flat fun k _ _ => at0_of_zeros (fun _ => List.eq_of_mem_replicate) k

theorem idct8_zero : idct8 (List.replicate 64 0) = List.replicate 64 0 := by decide

/-- Settles O54: the kernels share the scaling and the transform, and a block whose AC coefficients are zero is flat. -/
theorem residual4x4 : Obligations.Residual4x4 := by
  intro s qp ls scaled row col residual
  have hscaled (dd : Bool) : dequant4 s.ls4 qp dd s.wk.lvl = scaled dd := by
    simp only [dequant4_eq, scaleCoef_eq]
    rfl
  have hres (d : List Int) : idct4 d = residual d := idct4_eq d
  have hkernel (dd : Bool) : s.setRes (dequant4 s.ls4 qp dd s.wk.lvl) (idct4 (dequant4 s.ls4 qp dd s.wk.lvl)) =
      s.setWk { s.wk with coef := scaled dd, res := residual (scaled dd) } := by rw [hres, hscaled]; rfl
  refine ⟨?dequant, congrArg Host.Outcome.next (hkernel s.wk.dcDone), ?chromaAc,
    ⟨_, rfl, rfl, fun hsize hzero => ?zero4, fun hsize hzero => ?zero8⟩, ⟨_, rfl, ?dcOnly, fun hac => ?flat⟩⟩
  case dequant => exact congrArg (fun d => Host.Outcome.next (s.setWk { s.wk with coef := d })) (hscaled s.wk.dcDone)
  case chromaAc =>
    have hrun : exec .chromaAc s = .next ((s.setWk { s.wk with dcDone := true }).setRes (dequant4 s.ls4 qp true s.wk.lvl)
      (idct4 (dequant4 s.ls4 qp true s.wk.lvl))) := rfl
    rw [hrun, hres, hscaled]
    rfl
  case zero4 =>
    have hrun : exec .idct4x4 s = .next (s.setRes s.dequantNow (idct4 s.dequantNow)) := rfl
    rw [hrun, State.dequantNow, dequant4_zero hzero, idct4_zero, State.blockLen, hsize]
  case zero8 =>
    have hrun : exec .idct8x8 s = .next (s.setRes (dequant8 (s.levelScale8 s.wk.listIdx (qp % 6)) qp s.wk.lvl)
      (idct8 (dequant8 (s.levelScale8 s.wk.listIdx (qp % 6)) qp s.wk.lvl))) := rfl
    rw [hrun, dequant8_zero hzero, idct8_zero, State.blockLen, hsize]
  case dcOnly => rw [State.dequantNow, hscaled]; rfl
  case flat =>
    have hrun : exec .idct4x4 s = .next (s.setRes s.dequantNow (idct4 s.dequantNow)) := rfl
    rw [hrun, State.dequantNow, idct4_flat (dequant4_ac hac)]

/-! ## The DC transforms (R732, R733) -/

/-- The matrix `T` of R732. -/
def hadamard (i j : Nat) : Int := ([[1, 1, 1, 1], [1, 1, -1, -1], [1, -1, -1, 1], [1, -1, 1, -1]].getD i []).getD j 0

theorem hadamard_symm : ∀ i < 4, ∀ j < 4, hadamard i j = hadamard j i := by decide

/-- A value of the transform is a row of `T` times the values. -/
theorem at0_had4 (d : Nat → Int) {k : Nat} (hk : k < 4) : at0 (had4 d) k = ((List.range 4).map fun i => hadamard k i * d i).sum := by
  match k, hk with
  | 0, _ | 1, _ | 2, _ | 3, _ => simp [at0, had4, hadamard, List.range_succ]; ring

/-- On rows and then on columns the transform is `T c T`. -/
theorem hadamard_rows_columns (c : Nat → Nat → Int) {x y : Nat} (hx : x < 4) (hy : y < 4) :
    at0 (had4 fun i => at0 (had4 (c i)) x) y =
      ((List.range 4).map fun i => ((List.range 4).map fun j => hadamard y i * c i j * hadamard j x).sum).sum := by
  rw [at0_had4 _ hy]
  refine congrArg List.sum (List.map_congr_left fun i _ => ?_)
  rw [at0_had4 _ hx, ← List.sum_map_mul_left]
  refine congrArg List.sum (List.map_congr_left fun j hj => ?_)
  rw [hadamard_symm x hx j (List.mem_range.1 hj)]
  ring

theorem lumaDc_eq (ls0 : Int) (qp : Nat) (l : List Int) : lumaDc ls0 qp l = block 4 4 fun x y =>
    scaleCoef 6 qp ls0 (((List.range 4).map fun i => ((List.range 4).map fun j =>
      hadamard y i * at0 l (zz4.idxOf (4 * i + j)) * hadamard j x).sum).sum) := by
  rw [lumaDc, rowsThenColumns_eq readsBelow_had4, block_map]
  refine block_congr fun x y hx hy => congrArg _ ?_
  rw [← hadamard_rows_columns _ hx hy]
  refine congrArg (at0 · y) (readsBelow_had4 _ _ fun i hi => congrArg (at0 · x) (readsBelow_had4 _ _ fun j hj => ?_))
  exact at0_map_range _ (show 4 * i + j < 16 by omega)

/-- Settles O55: the luma transform is `T c T` scaled, and the chroma transform's formula is the spec's. -/
theorem dcTransforms : Obligations.DcTransforms := by
  intro s qp ls c t f l dcY dcC
  have hluma : lumaDc (at0 s.ls4 0) qp s.wk.lvl = dcY := by
    simp only [lumaDc_eq, scaleCoef_eq]
    rfl
  exact ⟨congrArg (fun d => Host.Outcome.next (s.setWk { s.wk with dcY := d })) hluma, rfl⟩

/-! ## The 8x8 residual (R735) -/

theorem idct8_eq (d : List Int) : idct8 d =
    block 8 8 fun x y => (at0 (t8 fun k => at0 (t8 fun j => at0 d (8 * k + j)) x) y + 32) / 64 := by
  rw [idct8, rowsThenColumns_eq readsBelow_t8, block_map]
  rfl

/-- Settles O56, by the scaling, the transform on rows and columns, and the rounding. -/
theorem residual8x8 : Obligations.Residual8x8 := by
  intro s qp ls scaled t8' row
  have hscaled : dequant8 (s.levelScale8 s.wk.listIdx (qp % 6)) qp s.wk.lvl = scaled := by
    simp only [dequant8_eq, scaleCoef_eq]
    rfl
  have hrun : exec .idct8x8 s = .next (s.setRes (dequant8 (s.levelScale8 s.wk.listIdx (qp % 6)) qp s.wk.lvl)
    (idct8 (dequant8 (s.levelScale8 s.wk.listIdx (qp % 6)) qp s.wk.lvl))) := rfl
  rw [hrun, hscaled, idct8_eq]
  rfl

/-! ## Reconstruction (R738, 46_mb_decoders.md R552) -/

/-- A plane after a block of it is replaced. -/
theorem at0_setBlock {plane vals : List Int} {pw x0 y0 w h i : Nat} (hi : i < plane.length) :
    at0 (setBlock plane pw x0 y0 w h vals) i =
      if x0 ≤ i % pw ∧ i % pw < x0 + w ∧ y0 ≤ i / pw ∧ i / pw < y0 + h then at0 vals ((i / pw - y0) * w + (i % pw - x0))
      else at0 plane i := by
  simp [at0, setBlock, hi]

/-- The reconstruction replaces its block in its own plane. -/
theorem setRecon_recon (m : MbRec) (plane x0 y0 w h : Nat) (vals : List Int) :
    (m.setRecon plane x0 y0 w h vals).recon plane = setBlock (m.recon plane) (mbSide plane) x0 y0 w h vals := by
  unfold MbRec.setRecon MbRec.recon mbSide
  split
  · rfl
  · split <;> rfl

/-- No plane but the block's changes. -/
theorem setRecon_eq (m : MbRec) (plane x0 y0 w h : Nat) (vals : List Int) :
    let r := (m.setRecon plane x0 y0 w h vals).recon plane
    m.setRecon plane x0 y0 w h vals = { m with
      reconY := if plane = 0 then r else m.reconY
      reconCb := if plane = 1 then r else m.reconCb
      reconCr := if plane = 0 ∨ plane = 1 then m.reconCr else r } := by
  unfold MbRec.setRecon MbRec.recon
  by_cases h0 : plane = 0
  · simp [h0]
  · by_cases h1 : plane = 1
    · simp [h1]
    · simp [h0, h1]

/-- A sample of the reconstructed block, by its place in the plane. -/
theorem at0_reconBlock (s : State) {i : Nat} (hx : s.wk.bx ≤ i % mbSide s.wk.plane)
    (hxw : i % mbSide s.wk.plane < s.wk.bx + s.wk.size) (hy : s.wk.by' ≤ i / mbSide s.wk.plane)
    (hyh : i / mbSide s.wk.plane < s.wk.by' + s.wk.size) :
    at0 s.reconBlock ((i / mbSide s.wk.plane - s.wk.by') * s.wk.size + (i % mbSide s.wk.plane - s.wk.bx)) =
      max 0 (min 255 (at0 (s.wk.pred s.wk.plane) i +
        at0 s.wk.res (s.wk.size * (i / mbSide s.wk.plane - s.wk.by') + (i % mbSide s.wk.plane - s.wk.bx)))) := by
  have hplace : mbSide s.wk.plane * (s.wk.by' + (i / mbSide s.wk.plane - s.wk.by')) + s.wk.bx + (i % mbSide s.wk.plane - s.wk.bx) = i := by
    rw [Nat.add_sub_cancel' hy, Nat.add_assoc, Nat.add_sub_cancel' hx, Nat.div_add_mod]
  have hsample := at0_block (fun x y => clip1 (at0 (s.wk.pred s.wk.plane) (mbSide s.wk.plane * (s.wk.by' + y) + s.wk.bx + x)
    + at0 s.wk.res (s.wk.size * y + x))) (Nat.sub_lt_left_of_lt_add hx hxw) (Nat.sub_lt_left_of_lt_add hy hyh)
  rw [hplace, clip1_eq] at hsample
  exact hsample

/-- Settles O57: the block's plane is replaced at the block, by clipped sums. -/
theorem reconstructionClips : Obligations.ReconstructionClips := by
  intro s w pw pred plane
  have hplane : plane (s.mb.setRecon w.plane w.bx w.by' w.size w.size s.reconBlock) =
      setBlock (plane s.mb) pw w.bx w.by' w.size w.size s.reconBlock := setRecon_recon ..
  refine ⟨_, rfl, rfl, (congrArg List.length hplane).trans List.length_mapIdx, setRecon_eq .., fun i hi => ?_⟩
  refine (congrArg (at0 · i) hplane).trans ((at0_setBlock hi).trans ?_)
  split
  · rename_i hin
    obtain ⟨hx, hxw, hy, hyh⟩ := hin
    exact at0_reconBlock s hx hxw hy hyh
  · rfl

end Sys2Proof.Machine
end

section
/-! PROOFS. Picture order count (49_reflist.md R750-R755): what each type keeps or raises, and the history after a picture. -/

namespace Sys2Proof.Machine

/-! ## The order count of a picture (R751-R753, R755) -/

theorem in32_iff (v : Int) : in32 v = true ↔ -2147483648 ≤ v ∧ v ≤ 2147483647 := by
  simp [in32]

/-- An operation POC_TYPE keeps its values when both field counts are signed 32-bit numbers, and raises `E_INVALID` otherwise. -/
theorem exec_computePoc {s : State} {i : Instr} {f : Au → SliceHdr → Poc} {top bottom msb fno : Int}
    (hexec : exec i s = .next (s.computePoc f)) (hp : f s.au s.hdr = ⟨top, bottom, msb, fno⟩) :
    (-2147483648 ≤ top ∧ top ≤ 2147483647 ∧ -2147483648 ≤ bottom ∧ bottom ≤ 2147483647 →
      exec i s = .next (s.setWk { s.wk with topPoc := top, bottomPoc := bottom, pocMsb := msb, frameNumOffset := fno })) ∧
    (¬ (-2147483648 ≤ top ∧ top ≤ 2147483647 ∧ -2147483648 ≤ bottom ∧ bottom ≤ 2147483647) →
      exec i s = .next ((s.setWk { s.wk with topPoc := top, bottomPoc := bottom, pocMsb := msb, frameNumOffset := fno }).restorePools.raise
        .invalid)) := by
  have hrange : (in32 top && in32 bottom) = true ↔
      -2147483648 ≤ top ∧ top ≤ 2147483647 ∧ -2147483648 ≤ bottom ∧ bottom ≤ 2147483647 := by
    rw [Bool.and_eq_true, in32_iff, in32_iff, and_assoc]
  rw [hexec, State.computePoc, hp]
  exact ⟨fun hin => congrArg _ (if_pos (hrange.2 hin)), fun hout => congrArg _ (if_neg (mt hrange.1 hout))⟩

/-- POC type 1 with the offsets of the cycle as sums of a list. -/
theorem pocType1_eq (au : Au) (h : SliceHdr) :
    let n := h.sps.offsetForRefFrame.length
    let fno := frameNumOffset au h
    let abs0 : Int := if n ≠ 0 then fno + h.frameNum else 0
    let abs : Int := if h.nalRefIdc = 0 ∧ abs0 > 0 then abs0 - 1 else abs0
    let sum (k : Nat) : Int := ((List.range k).map fun i => h.sps.offsetForRefFrame.getD i 0).sum
    let e0 : Int := if abs > 0 then (abs - 1) / (n : Int) * sum n + sum (((abs - 1) % (n : Int)).toNat + 1) else 0
    let e : Int := if h.nalRefIdc = 0 then e0 + h.sps.offsetForNonRefPic else e0
    pocType1 au h = ⟨e + h.deltaPoc0, e + h.deltaPoc0 + h.sps.offsetForTopToBottom + h.deltaPoc1, 0, fno⟩ := by
  simp only [pocType1, sumTo_eq_sum, ne_eq, Nat.cast_eq_zero]
  rfl

/-- Settles O33: each type computes the spec's values. -/
theorem pictureOrderCount : Obligations.PictureOrderCount := by
  intro s
  refine ⟨?type0, ?type1, ?type2⟩
  case type0 => exact exec_computePoc rfl rfl
  case type1 => exact exec_computePoc rfl (pocType1_eq s.au s.hdr)
  case type2 => exact exec_computePoc rfl rfl

/-! ## The history (R750) -/

/-- `FrameNumOffset` is the same in all three types. -/
theorem pocOf_frameNumOffset (au : Au) (h : SliceHdr) : (pocOf au h).frameNumOffset = frameNumOffset au h := by
  unfold pocOf
  split <;> rfl

theorem pocOf_type0 {au : Au} {h : SliceHdr} (h0 : h.sps.pocType = 0) : pocOf au h = pocType0 au h := by
  simp only [pocOf, h0]

section
variable {freeMsb freeLsb : Int} {au : Au} {h : SliceHdr} {f : Frame}

theorem pocHistory_frameNum : (pocHistory freeMsb freeLsb au h f).prevFrameNum = ((if f.hadMmco5 then 0 else h.frameNum : Nat) : Int) ∧
    (pocHistory freeMsb freeLsb au h f).prevFrameNumOffset = (if f.hadMmco5 then 0 else frameNumOffset au h) :=
  ⟨(Nat.cast_ite ..).symm, congrArg (fun n => if f.hadMmco5 then 0 else n) (pocOf_frameNumOffset au h)⟩

theorem pocHistory_nonReference (href : h.nalRefIdc = 0) :
    (pocHistory freeMsb freeLsb au h f).prevRefHadMmco5 = au.prevRefHadMmco5 ∧
    (pocHistory freeMsb freeLsb au h f).prevPocMsb = au.prevPocMsb ∧ (pocHistory freeMsb freeLsb au h f).prevPocLsb = au.prevPocLsb := by
  simp [pocHistory, href]

variable (href : h.nalRefIdc ≠ 0)
include href

theorem pocHistory_hadMmco5 : (pocHistory freeMsb freeLsb au h f).prevRefHadMmco5 = f.hadMmco5 := by
  cases h5 : f.hadMmco5 <;> simp [pocHistory, href, h5]

theorem pocHistory_afterMmco5 (h5 : f.hadMmco5 = true) :
    (pocHistory freeMsb freeLsb au h f).prevPocMsb = 0 ∧ (pocHistory freeMsb freeLsb au h f).prevPocLsb = f.topPoc := by
  simp [pocHistory, href, h5]

theorem pocHistory_type0 (h5 : f.hadMmco5 = false) (h0 : h.sps.pocType = 0) :
    (pocHistory freeMsb freeLsb au h f).prevPocMsb = (pocType0 au h).msb ∧
    (pocHistory freeMsb freeLsb au h f).prevPocLsb = h.pocLsb := by
  simp [pocHistory, href, h5, h0, pocOf_type0 h0]

end

theorem outputFrame_au (s : State) (h : Nat) : (s.outputFrame h).au =
    pocHistory (Config.freeInt s.freeCtr) (Config.freeInt (s.freeCtr + 1)) s.au s.first (s.frame h) := rfl

/-- A failed access unit and one without a picture output nothing. -/
theorem auEndFinish_discard {s : State} (h : s.au.failed = true ∨ s.au.curFrame = none) : s.auEndFinish = s.clearAu := by
  unfold State.auEndFinish
  cases hcur : s.au.curFrame with
  | none => rfl
  | some g => exact if_pos (h.resolve_right (by simp [hcur]))

/-- Settles O20: an output frame leaves its history, and nothing else touches it. -/
theorem pocHistoryAfterAuEnd : Obligations.PocHistory := by
  intro s ts hdue
  refine ⟨(s.taken ts).auEndFinish, step_due hdue, fun h hfail hcur _ => ?output, fun hno => ?discard⟩
  case output =>
    rw [auEndFinish_output (s := s.taken ts) hfail hcur, clearAu_au, outputFrame_au]
    exact ⟨pocHistory_hadMmco5, pocHistory_afterMmco5, pocHistory_type0, pocHistory_nonReference,
      pocHistory_frameNum (freeMsb := Config.freeInt s.freeCtr) (freeLsb := Config.freeInt (s.freeCtr + 1))⟩
  case discard =>
    rw [auEndFinish_discard (s := s.taken ts) hno]
    exact ⟨rfl, rfl, rfl, rfl, rfl⟩

end Sys2Proof.Machine
end

section
/-! PROOFS. The reference lists' modification commands (49_reflist.md R795, R796, R799): the frame that a command names, and the list after it has moved to the next position. -/

namespace Sys2Proof.Machine

/-! ## The lowest handle of a kind (log entry 21) -/

/-- The lowest handle with a property. -/
def State.Lowest (s : State) (is : Nat → Prop) (f : Nat) : Prop := f < s.fs.length ∧ is f ∧ ∀ g, g < f → ¬ is g

section
variable {s : State} {m : Mark} {p : Nat → Prop} [DecidablePred p]

theorem find?_handlesWith_eq_none (h : ∀ g, g < s.fs.length → ¬ ((s.frame g).mark = m ∧ p g)) :
    (handlesWith s.fs m).find? (fun g => decide (p g)) = none := by
  refine List.find?_eq_none.2 fun g hg hp => ?_
  obtain ⟨hlt, hm⟩ := List.mem_filter.1 hg
  exact h g (List.mem_range.1 hlt) ⟨of_decide_eq_true hm, of_decide_eq_true hp⟩

theorem find?_handlesWith_eq_some {f : Nat} :
    (handlesWith s.fs m).find? (fun g => decide (p g)) = some f ↔ s.Lowest (fun g => (s.frame g).mark = m ∧ p g) f := by
  rw [handlesWith, List.find?_filter, List.find?_range_eq_some, List.mem_range, State.Lowest]
  simp only [State.frame, Bool.not_eq_true', decide_eq_true_eq, decide_eq_false_iff_not, not_and]
  tauto

end

/-- The short-term frames with a picture number (R760). -/
def State.IsShort (s : State) (h : SliceHdr) (n : Int) (g : Nat) : Prop :=
  (s.frame g).mark = .shortTerm ∧ picNum h.sps.maxFrameNum h.frameNum (s.frame g) = n

/-- The long-term frames with a long-term picture number. -/
def State.IsLong (s : State) (k g : Nat) : Prop := (s.frame g).mark = .longTerm ∧ (s.frame g).longTermFrameIdx = k

section
variable {s : State} {h : SliceHdr} {n : Int} {k f : Nat}

theorem shortWithPicNum_none (hno : ∀ g, g < s.fs.length → ¬ s.IsShort h n g) :
    s.shortWithPicNum h.frameNum h.sps.maxFrameNum n = none := find?_handlesWith_eq_none hno

theorem shortWithPicNum_some : s.shortWithPicNum h.frameNum h.sps.maxFrameNum n = some f ↔ s.Lowest (s.IsShort h n) f :=
  find?_handlesWith_eq_some

theorem longWithNum_none (hno : ∀ g, g < s.fs.length → ¬ s.IsLong k g) : s.longWithNum k = none := find?_handlesWith_eq_none hno

theorem longWithNum_some : s.longWithNum k = some f ↔ s.Lowest (s.IsLong k) f := find?_handlesWith_eq_some

end

/-! ## The list after a move (R795) -/

/-- The moved list, with what its later part keeps told by a property of the handles that leave. -/
theorem moveTo_eq {l : List (Option Nat)} {idx f : Nat} {same : Nat → Bool} {keep : Option Nat → Bool} (hnone : keep none = true)
    (hsome : ∀ g, keep (some g) = !same g) :
    moveTo l idx f same =
      let rest := (l.drop idx).take (l.length - 1 - idx)
      l.take idx ++ some f :: (rest.filter keep ++ rest.drop (rest.filter keep).length) := by
  have hkeep : (fun e : Option Nat => match e with
      | none => true
      | some g => !same g) = keep := by
    funext e
    cases e with
    | none => exact hnone.symm
    | some g => exact (hsome g).symm
  rw [← hkeep]
  rfl

/-! ## The commands (R795, R799) -/

/-- The predicted picture number after a command, wrapped into the range. -/
def State.rplmPred (s : State) (v : Nat) (sub : Bool) : Int :=
  if sub then
    if s.wk.picNumPred - (v + 1) < 0 then s.wk.picNumPred - (v + 1) + s.hdr.sps.maxFrameNum else s.wk.picNumPred - (v + 1)
  else
    if s.wk.picNumPred + (v + 1) ≥ s.hdr.sps.maxFrameNum then s.wk.picNumPred + (v + 1) - s.hdr.sps.maxFrameNum
    else s.wk.picNumPred + (v + 1)

/-- The picture number that a command names. -/
def State.rplmNum (s : State) (v : Nat) (sub : Bool) : Int :=
  if s.rplmPred v sub > s.hdr.frameNum then s.rplmPred v sub - s.hdr.sps.maxFrameNum else s.rplmPred v sub

section
variable {s : State} {v f : Nat} {sub : Bool}

theorem rplmShort_outOfRange (h : (v : Int) + 1 > s.hdr.sps.maxFrameNum) : s.rplmShort v sub = s.raise .invalid := if_pos h

theorem rplmShort_inRange (h : (v : Int) + 1 ≤ s.hdr.sps.maxFrameNum) : s.rplmShort v sub =
    (s.setWk { s.wk with picNumPred := s.rplmPred v sub }).rplmMove
      (s.shortWithPicNum s.hdr.frameNum s.hdr.sps.maxFrameNum (s.rplmNum v sub)) fun g =>
        decide ((s.frame g).mark = .shortTerm) &&
          decide (picNum s.hdr.sps.maxFrameNum s.hdr.frameNum (s.frame g) = s.rplmNum v sub) :=
  if_neg (Int.not_lt.2 h)

theorem rplmShort_absent (h : (v : Int) + 1 ≤ s.hdr.sps.maxFrameNum)
    (hno : ∀ g, g < s.fs.length → ¬ s.IsShort s.hdr (s.rplmNum v sub) g) :
    s.rplmShort v sub = (s.setWk { s.wk with picNumPred := s.rplmPred v sub }).raise .invalid := by
  rw [rplmShort_inRange h, shortWithPicNum_none hno]
  rfl

theorem rplmShort_found {l : List (Option Nat)} (h : (v : Int) + 1 ≤ s.hdr.sps.maxFrameNum)
    (hf : s.Lowest (s.IsShort s.hdr (s.rplmNum v sub)) f)
    (hl : moveTo s.wk.rplmList s.wk.rplmIdx f (fun g => decide ((s.frame g).mark = .shortTerm) &&
      decide (picNum s.hdr.sps.maxFrameNum s.hdr.frameNum (s.frame g) = s.rplmNum v sub)) = l) :
    s.rplmShort v sub =
      s.setWk { s.wk with picNumPred := s.rplmPred v sub, rplmIdx := s.wk.rplmIdx + 1, rplmList := l } := by
  rw [rplmShort_inRange h, shortWithPicNum_some.2 hf, ← hl]
  rfl

/-- The key of a frame for a long-term command (R795). -/
def State.longKey (s : State) (g : Nat) : Nat :=
  if (s.frame g).mark = .longTerm then (s.frame g).longTermFrameIdx else (s.maxLongTermFrameIdx.map fun m => 2 * (m + 1)).getD 0

theorem rplmLong_eq : s.rplmLong v = s.rplmMove (s.longWithNum v) fun g => decide (s.longKey g = v) := by
  unfold State.rplmLong State.longKey
  cases s.maxLongTermFrameIdx <;> rfl

theorem rplmLong_absent (hno : ∀ g, g < s.fs.length → ¬ s.IsLong v g) : s.rplmLong v = s.raise .invalid := by
  rw [rplmLong_eq, longWithNum_none hno]
  rfl

theorem rplmLong_found {l : List (Option Nat)} (hf : s.Lowest (s.IsLong v) f)
    (hl : moveTo s.wk.rplmList s.wk.rplmIdx f (fun g => decide (s.longKey g = v)) = l) :
    s.rplmLong v = s.setWk { s.wk with rplmIdx := s.wk.rplmIdx + 1, rplmList := l } := by
  rw [rplmLong_eq, longWithNum_some.2 hf, ← hl]
  rfl

end

/-- Settles O58: a command is out of range, names no frame, or moves the lowest one it names. -/
theorem listModification : Obligations.ListModification := by
  intro s v h maxPic next pn moved
  have hmoved {f : Nat} {gone : Nat → Prop} [DecidablePred gone] {same : Nat → Bool} (hsame : ∀ g, same g = decide (gone g)) :
      moveTo s.wk.rplmList s.wk.rplmIdx f same = moved f gone :=
    moveTo_eq rfl fun g => by rw [hsame, ← decide_not]
  refine ⟨fun i d hi => ?short, ?long, rfl⟩
  case short =>
    intro noWrap n is
    obtain ⟨sub, hexec, hpred⟩ : ∃ sub, exec i s = .next (next.rplmShort v sub) ∧ noWrap = next.rplmPred v sub := by
      rcases hi with ⟨rfl, rfl⟩ | ⟨rfl, rfl⟩
      · exact ⟨true, rfl, if_pos rfl⟩
      · exact ⟨false, rfl, if_neg nofun⟩
    have hnum : n = next.rplmNum v sub := by
      simp only [n, hpred]
      rfl
    clear_value n noWrap
    subst hnum hpred
    rw [hexec]
    refine ⟨fun hover => congrArg _ (rplmShort_outOfRange (s := next) hover),
      fun hle hno => congrArg _ (rplmShort_absent (s := next) hle hno), fun f hle hlt hf hlow => congrArg _ ?_⟩
    exact rplmShort_found (s := next) hle ⟨hlt, hf, hlow⟩ (hmoved fun g => (Bool.decide_and _ _).symm)
  case long =>
    refine ⟨fun hno => congrArg Host.Outcome.next (rplmLong_absent (s := next) hno),
      fun f hlt hf hlow => congrArg Host.Outcome.next ?_⟩
    exact rplmLong_found (s := next) ⟨hlt, hf, hlow⟩ (hmoved fun g => rfl)

end Sys2Proof.Machine
end

section
/-! PROOFS. The marking operations (49_reflist.md R773-R782): each unmarks or marks the frame it names, and their end holds the pools within the bound. -/

namespace Sys2Proof.Machine

/-! ## Frames named by an operation (R773-R775) -/

/-- A marking error latches `E_MARK` (R779, 60_exceptions.md R813). -/
theorem markError_eq (s : State) : s.markError = s.setCsr (s.csr.latched 6 s.au.nalIndex s.errMb 0) := recordAt_eq s .mark 0

section
variable {s : State} {k : Nat}

theorem mmcoShort_none {d : Nat} (hno : ∀ g, g < s.fs.length → ¬ s.IsShort s.first (s.first.frameNum - (d + 1)) g) :
    s.mmcoShort d = none := shortWithPicNum_none hno

theorem mmcoShort_some {d f : Nat} : s.mmcoShort d = some f ↔ s.Lowest (s.IsShort s.first (s.first.frameNum - (d + 1))) f :=
  shortWithPicNum_some

theorem longIdxOk_iff : s.longIdxOk k = true ↔ ∃ m, s.maxLongTermFrameIdx = some m ∧ k ≤ m := by
  unfold State.longIdxOk
  cases s.maxLongTermFrameIdx <;> simp

theorem longIdxOk_eq_false (h : ¬ ∃ m, s.maxLongTermFrameIdx = some m ∧ k ≤ m) : s.longIdxOk k = false :=
  Bool.eq_false_iff.2 (mt longIdxOk_iff.1 h)

end

/-! ## What unmarking and marking leave (R782) -/

theorem unmark_named (s : State) (f : Nat) : sameFramesBut s (s.unmark f) f ∧ (s.unmark f).frame f = s.unmarkedFrame f :=
  ⟨⟨updFrame_length .., fun g hg => by rw [frame_unmark, if_neg hg]⟩, by rw [frame_unmark, if_pos rfl]⟩

theorem unmarkAll_length (hs : List Nat) (s : State) : (s.unmarkAll hs).fs.length = s.fs.length :=
  ((Quiet.refl s).unmarkAll hs).fs

theorem frame_unmark? (s : State) (o : Option Nat) (g : Nat) :
    (s.unmark? o).frame g = if o = some g then s.unmarkedFrame g else s.frame g := by
  cases o with
  | none => rfl
  | some h =>
    refine (frame_unmark s h g).trans ?_
    by_cases hg : g = h
    · rw [if_pos hg, if_pos (congrArg some hg.symm), hg]
    · rw [if_neg hg, if_neg fun heq => hg (Option.some.inj heq).symm]

theorem unmark?_length (s : State) (o : Option Nat) : (s.unmark? o).fs.length = s.fs.length := ((Quiet.refl s).unmark? o).fs

theorem unmark?_eq (s : State) (o : Option Nat) : s.unmark? o = s.setFs (s.unmark? o).fs := by
  cases o <;> rfl

/-- The frame that takes a long-term index, after the frame that had it lost its mark. -/
def State.takeLong (s : State) (f k : Nat) : State := (s.unmark? (s.longWithNum k)).makeLong f k

section
variable (s : State) (f k : Nat)

theorem takeLong_eq : s.takeLong f k = s.setFs (s.takeLong f k).fs := by
  rw [State.takeLong, unmark?_eq]
  rfl

theorem takeLong_length : (s.takeLong f k).fs.length = s.fs.length := (updFrame_length ..).trans (unmark?_length ..)

variable {s f k}

/-- The frame itself: it is not the one that had the index, or it is the current one, which stays in use. -/
theorem takeLong_frame (hlt : f < s.fs.length) (hf : ¬ s.Lowest (s.IsLong k) f ∨ s.au.curFrame = some f) :
    (s.takeLong f k).frame f = { s.frame f with mark := .longTerm, longTermFrameIdx := k } := by
  refine (frame_updFrame ..).trans ((if_pos ⟨rfl, (unmark?_length ..).symm ▸ hlt⟩).trans ?_)
  rw [frame_unmark?]
  split
  · rename_i hnum
    have hcur := hf.resolve_left (not_not_intro (longWithNum_some.1 hnum))
    simp [State.unmarkedFrame, hcur]
  · rfl

theorem takeLong_other {g : Nat} (hg : g ≠ f) :
    (s.Lowest (s.IsLong k) g → (s.takeLong f k).frame g = s.unmarkedFrame g) ∧
    (¬ s.Lowest (s.IsLong k) g → (s.takeLong f k).frame g = s.frame g) := by
  have hframe : (s.takeLong f k).frame g = if s.longWithNum k = some g then s.unmarkedFrame g else s.frame g := by
    refine (frame_updFrame ..).trans ((if_neg fun hand => hg hand.1).trans ?_)
    exact frame_unmark? ..
  rw [hframe]
  exact ⟨fun hlow => if_pos (longWithNum_some.2 hlow), fun hno => if_neg (mt longWithNum_some.1 hno)⟩

end

/-! ## The operations (R773-R777, R779) -/

section
variable {s : State} {d k p f : Nat}

theorem mmcoShortUnused_none (h : s.mmcoShort d = none) : s.mmcoShortUnused d = s.markError := by
  rw [State.mmcoShortUnused, h]

theorem mmcoShortUnused_some (h : s.mmcoShort d = some f) : s.mmcoShortUnused d = s.unmark f := by
  rw [State.mmcoShortUnused, h]

theorem mmcoLongUnused_none (h : s.longWithNum k = none) : s.mmcoLongUnused k = s.markError := by
  rw [State.mmcoLongUnused, h]

theorem mmcoLongUnused_some (h : s.longWithNum k = some f) : s.mmcoLongUnused k = s.unmark f := by
  rw [State.mmcoLongUnused, h]

theorem mmcoShortToLong_skipped (h : s.longIdxOk k = false ∨ s.mmcoShort d = none) : s.mmcoShortToLong d k = s.markError := by
  unfold State.mmcoShortToLong
  cases hok : s.longIdxOk k with
  | false => rfl
  | true => rw [h.resolve_left (by simp [hok])]; rfl

theorem mmcoShortToLong_taken (hok : s.longIdxOk k = true) (h : s.mmcoShort d = some f) :
    s.mmcoShortToLong d k = s.takeLong f k := by
  rw [State.mmcoShortToLong, hok, h]
  rfl

theorem mmcoMaxLongIdx_skipped (h : p > 16) : s.mmcoMaxLongIdx p = s.markError := if_pos h

/-- The long-term frames whose index is past a new bound. -/
def State.longFrom (s : State) (p : Nat) : List Nat :=
  (handlesWith s.fs .longTerm).filter fun h => decide (p ≤ (s.frame h).longTermFrameIdx)

theorem mem_longFrom {g : Nat} (hg : g < s.fs.length) :
    g ∈ s.longFrom p ↔ (s.frame g).mark = .longTerm ∧ (s.frame g).longTermFrameIdx ≥ p := by
  rw [State.longFrom, List.mem_filter, decide_eq_true_eq, and_comm]
  simp [handlesWith, State.frame, hg, and_comm]

theorem mmcoMaxLongIdx_taken (h : p ≤ 16) :
    s.mmcoMaxLongIdx p = (s.unmarkAll (s.longFrom p)).setMaxLong (if p = 0 then none else some (p - 1)) :=
  if_neg (Nat.not_lt.2 h)

/-- The marked frames other than the current one. -/
def State.otherMarked (s : State) : List Nat := s.marked.filter fun h => decide (s.au.curFrame ≠ some h)

theorem mem_otherMarked {h g : Nat} (hcur : s.au.curFrame = some h) (hg : g < s.fs.length) :
    g ∈ s.otherMarked ↔ g ≠ h ∧ (s.frame g).mark ≠ .unused := by
  rw [State.otherMarked, List.mem_filter, mem_marked, hcur, decide_eq_true_eq, and_comm]
  simp [hg, eq_comm]

theorem mmcoAllUnused_eq (hcur : s.au.curFrame = some f) :
    s.mmcoAllUnused = ((s.unmarkAll s.otherMarked).setMaxLong none).updFrame f fun f => { f with hadMmco5 := true } := by
  have hf : ((s.unmarkAll s.otherMarked).setMaxLong none).cur = f := by
    rw [State.cur, setMaxLong_au, unmarkAll_au, hcur, Option.getD_some]
  exact congrArg (fun h => State.updFrame _ h _) hf

theorem mmcoCurToLong_skipped (h : s.longIdxOk k = false) : s.mmcoCurToLong k = s.markError := by
  rw [State.mmcoCurToLong, h]
  rfl

theorem mmcoCurToLong_taken (hok : s.longIdxOk k = true) (hcur : s.au.curFrame = some f) :
    s.mmcoCurToLong k = (s.takeLong f k).setWk { (s.takeLong f k).wk with curLong := true } := by
  have hf : s.cur = f := by rw [State.cur, hcur, Option.getD_some]
  rw [State.mmcoCurToLong, hok, hf]
  rfl

end

/-- Settles O59: an operation is skipped with `E_MARK`, or unmarks the frames it names and marks its own. -/
theorem markingOperations : Obligations.MarkingOperations := by
  intro s next n pn short long lowest absent allowed skipped
  have hskip {i : Instr} {t : State} (hexec : exec i s = .next t) (ht : t = next.markError) : skipped i :=
    hexec.trans (congrArg Host.Outcome.next (ht.trans (markError_eq next)))
  refine ⟨fun d => ⟨fun hno => ?shortSkipped, fun f hf => ?short⟩, fun k => ⟨fun hno => ?longSkipped, fun f hf => ?long⟩,
    fun d k => ⟨fun hno => ?toLongSkipped, fun f hok hf => ?toLong⟩, fun p => ⟨fun hover => ?maxSkipped, fun hle => ?max⟩,
    fun h hcur hlt => ?all, fun k => ⟨fun hno => ?curSkipped, fun h hok hcur hlt => ?cur⟩⟩
  case shortSkipped => exact hskip rfl (mmcoShortUnused_none (mmcoShort_none (s := next) hno))
  case short =>
    refine ⟨next.unmark f, congrArg Host.Outcome.next (mmcoShortUnused_some (mmcoShort_some (s := next).2 hf)), rfl, ?_⟩
    exact unmark_named next f
  case longSkipped => exact hskip rfl (mmcoLongUnused_none (longWithNum_none (s := next) hno))
  case long =>
    refine ⟨next.unmark f, congrArg Host.Outcome.next (mmcoLongUnused_some (longWithNum_some (s := next).2 hf)), rfl, ?_⟩
    exact unmark_named next f
  case toLongSkipped =>
    exact hskip rfl (mmcoShortToLong_skipped (hno.imp (longIdxOk_eq_false (s := next)) (mmcoShort_none (s := next))))
  case toLong =>
    obtain ⟨hlt, ⟨hmark, hnum⟩, hlow⟩ := hf
    have hnotLong : ¬ next.Lowest (next.IsLong k) f := fun ⟨_, ⟨hlong, _⟩, _⟩ => by
      cases hmark.symm.trans hlong
    refine ⟨next.takeLong f k, congrArg Host.Outcome.next (mmcoShortToLong_taken (longIdxOk_iff.2 hok)
      (mmcoShort_some (s := next).2 ⟨hlt, ⟨hmark, hnum⟩, hlow⟩)), takeLong_eq .., takeLong_length next f k,
      takeLong_frame (s := next) hlt (.inl hnotLong), fun g hg => takeLong_other (s := next) hg⟩
  case maxSkipped => exact hskip rfl (mmcoMaxLongIdx_skipped hover)
  case max =>
    refine ⟨_, congrArg Host.Outcome.next (mmcoMaxLongIdx_taken (s := next) hle), ?_, unmarkAll_length _ next, fun g hg => ?_⟩
    · exact congrArg (State.setMaxLong · _) (unmarkAll_eq _ next)
    · refine (frame_unmarkAll _ g next).trans (if_congr ?_ rfl rfl)
      exact mem_longFrom (s := next) hg
  case all =>
    refine ⟨_, congrArg Host.Outcome.next (mmcoAllUnused_eq (s := next) hcur), ?_, ?_, ?_, fun g hg hgh => ?_⟩
    · rw [unmarkAll_eq]
      rfl
    · exact (updFrame_length ..).trans (unmarkAll_length _ next)
    · have hself : h ∉ next.otherMarked := fun hm => ((mem_otherMarked (s := next) hcur hlt).1 hm).1 rfl
      refine (frame_updFrame ..).trans ((if_pos ⟨rfl, (unmarkAll_length _ next).symm ▸ hlt⟩).trans ?_)
      exact congrArg (fun f : Frame => { f with hadMmco5 := true }) ((frame_unmarkAll _ h next).trans (if_neg hself))
    · refine (frame_updFrame ..).trans ((if_neg fun hand => hgh hand.1).trans ((frame_unmarkAll _ g next).trans ?_))
      have hmem := mem_otherMarked (s := next) hcur hg
      by_cases hmark : (s.frame g).mark = .unused
      · rw [if_pos hmark, if_neg fun hm => (hmem.1 hm).2 hmark]
        rfl
      · rw [if_neg hmark, if_pos (hmem.2 ⟨hgh, hmark⟩)]
        rfl
  case curSkipped => exact hskip rfl (mmcoCurToLong_skipped (longIdxOk_eq_false (s := next) hno))
  case cur =>
    refine ⟨_, congrArg Host.Outcome.next (mmcoCurToLong_taken (s := next) (longIdxOk_iff.2 hok) hcur), ?_,
      takeLong_length next h k, takeLong_frame (s := next) hlt (.inr hcur), fun g hg => takeLong_other (s := next) hg⟩
    rw [takeLong_eq]
    rfl

/-! ## The bound of the pools (R780) -/

theorem shrinkPools_succ (n : Nat) (s : State) :
    (markedCount s.fs ≤ s.maxRefs ∧ State.shrinkPools (n + 1) s = s) ∨
    (s.oldestShort = none ∧ State.shrinkPools (n + 1) s = s) ∨
    ∃ o, markedCount s.fs > s.maxRefs ∧ s.oldestShort = some o ∧
      State.shrinkPools (n + 1) s = State.shrinkPools n (s.unmark o) := by
  rw [State.shrinkPools, marked_length]
  split
  · rename_i hover
    cases hold : s.oldestShort with
    | none => exact .inr (.inl ⟨rfl, rfl⟩)
    | some o => exact .inr (.inr ⟨o, hover, rfl, rfl⟩)
  · rename_i hroom
    exact .inl ⟨Nat.not_lt.1 hroom, rfl⟩

/-- The bound takes frames as the sliding window does: the oldest first. -/
theorem shrinkPools_slid (n : Nat) : ∀ s, Slid s (State.shrinkPools n s) := by
  induction n with
  | zero => exact Slid.refl
  | succ n ih =>
    intro s
    rcases shrinkPools_succ n s with ⟨-, heq⟩ | ⟨-, heq⟩ | ⟨o, hover, hold, heq⟩
    · rw [heq]; exact Slid.refl s
    · rw [heq]; exact Slid.refl s
    · obtain ⟨ho, hmin⟩ := oldestShort_spec hold
      rw [heq]
      exact (ih (s.unmark o)).after_unmark rfl ho hmin (Nat.le_of_lt hover)

/-- No more frames leave than the bound asks for. -/
theorem shrinkPools_count (n : Nat) : ∀ s, markedCount s.fs ≥ s.maxRefs → markedCount (State.shrinkPools n s).fs ≥ s.maxRefs := by
  induction n with
  | zero => exact fun _ hge => hge
  | succ n ih =>
    intro s hge
    rcases shrinkPools_succ n s with ⟨-, heq⟩ | ⟨-, heq⟩ | ⟨o, hover, hold, heq⟩
    · rw [heq]; exact hge
    · rw [heq]; exact hge
    · have hleft := markedCount_unmark (oldestShort_spec hold).1
      have hbound : (s.unmark o).maxRefs = s.maxRefs := rfl
      rw [heq, ← hbound]
      exact ih (s.unmark o) (by omega)

/-- With fuel for the marked frames the pools end within the bound or with no frame left to leave. -/
theorem shrinkPools_ends (n : Nat) : ∀ s, markedCount s.fs ≤ n →
    markedCount (State.shrinkPools n s).fs ≤ s.maxRefs ∨ ∀ g, ¬ (State.shrinkPools n s).OtherShort g := by
  induction n with
  | zero => exact fun s hle => .inl (Nat.le_trans hle (Nat.zero_le _))
  | succ n ih =>
    intro s hle
    rcases shrinkPools_succ n s with ⟨hroom, heq⟩ | ⟨hnone, heq⟩ | ⟨o, hover, hold, heq⟩
    · rw [heq]; exact .inl hroom
    · rw [heq]; exact .inr (oldestShort_eq_none.1 hnone)
    · have hleft := markedCount_unmark (oldestShort_spec hold).1
      rw [heq]
      exact ih (s.unmark o) (by omega)

theorem boundPools_within {s : State} (h : markedCount s.fs ≤ s.maxRefs) : s.boundPools = s :=
  if_neg (by rw [marked_length]; exact Nat.not_lt.2 h)

theorem boundPools_over {s : State} (h : markedCount s.fs > s.maxRefs) :
    s.boundPools = (State.shrinkPools s.fs.length s).markError := if_pos (by rw [marked_length]; exact h)

/-! ## The end of the operations (R778, R780, R781) -/

/-- The current frame's numbers after operation 5 (R778). -/
def Frame.mmco5Reset (f : Frame) : Frame :=
  if f.hadMmco5 then
    { f with topPoc := f.topPoc - min f.topPoc f.bottomPoc, bottomPoc := f.bottomPoc - min f.topPoc f.bottomPoc,
             poc := 0, frameNum := 0 }
  else f

/-- The current frame after the operations, before the bound of the pools. -/
def State.mmcosDoneFrame (s : State) (h : Nat) : Frame :=
  (if s.wk.curLong then s.frame h else { s.frame h with mark := .shortTerm }).mmco5Reset

/-- The state in which the pools are held within the bound. -/
def State.mmcosDone (s : State) (h : Nat) : State := s.setFs (s.fs.set h (s.mmcosDoneFrame h))

section
variable {s : State} {h : Nat}

theorem mmcosDone_length : (s.mmcosDone h).fs.length = s.fs.length := List.length_set

/-- To change the frame of a handle is to replace it. -/
theorem updFrame_eq_set (hlt : h < s.fs.length) (f : Frame → Frame) : s.updFrame h f = s.setFs (s.fs.set h (f (s.frame h))) := by
  have hget : s.fs[h]? = some (s.frame h) := by rw [frame_eq_getElem hlt, List.getElem?_eq_getElem hlt]
  exact congrArg s.setFs (modify_eq_set_of_getElem? f hget)

variable (hcur : s.au.curFrame = some h) (hlt : h < s.fs.length)
include hlt

theorem mmcosDone_frame_cur : (s.mmcosDone h).frame h = s.mmcosDoneFrame h := by
  rw [State.mmcosDone, ← updFrame_eq_set hlt fun _ => s.mmcosDoneFrame h, frame_updFrame, if_pos ⟨rfl, hlt⟩]

theorem mmcosDone_frame_other {g : Nat} (hg : g ≠ h) : (s.mmcosDone h).frame g = s.frame g := by
  rw [State.mmcosDone, ← updFrame_eq_set hlt fun _ => s.mmcosDoneFrame h, frame_updFrame, if_neg fun hand => hg hand.1]

include hcur

/-- The end of the operations: the current frame first, then the bound of the pools. -/
theorem finishMarking_eq : s.finishMarking = (s.mmcosDone h).boundPools := by
  have hupd (f : Frame → Frame) : s.updCur f = s.updFrame h f := by rw [State.updCur, State.cur, hcur, Option.getD_some]
  rw [State.finishMarking]
  refine congrArg State.boundPools ?_
  rw [State.mmcosDone, State.mmcosDoneFrame]
  cases s.wk.curLong with
  | true => exact (hupd Frame.mmco5Reset).trans (updFrame_eq_set hlt _)
  | false =>
    have hcurU (f : Frame → Frame) : (s.updFrame h f).cur = h := by
      change s.au.curFrame.getD 0 = h
      rw [hcur, Option.getD_some]
    have htwice (f g : Frame → Frame) : (s.updFrame h f).updFrame h g = s.updFrame h (g ∘ f) :=
      congrArg s.setFs (List.modify_modify_eq ..)
    have hrun : (s.updFrame h fun f => { f with mark := .shortTerm }).mmco5Finish =
        (s.updFrame h fun f => { f with mark := .shortTerm }).updFrame h Frame.mmco5Reset :=
      congrArg (fun c => State.updFrame _ c _) (hcurU _)
    rw [if_neg Bool.false_ne_true, hupd, hrun, htwice, updFrame_eq_set hlt]
    rfl

end

section
variable {s : State} {h : Nat} (hcur : s.au.curFrame = some h) (hlt : h < s.fs.length)
include hlt

theorem mmcosDone_frameNumWrap {g : Nat} (hg : g ≠ h) : (s.mmcosDone h).frameNumWrap g = s.frameNumWrap g := by
  rw [State.frameNumWrap, State.frameNumWrap, mmcosDone_frame_other hlt hg]
  rfl

theorem mmcosDone_unmarkedFrame {g : Nat} (hg : g ≠ h) : (s.mmcosDone h).unmarkedFrame g = s.unmarkedFrame g := by
  rw [State.unmarkedFrame, State.unmarkedFrame, mmcosDone_frame_other hlt hg]
  rfl

/-- A frame other than the current one stays as it is, or is a short-term frame that lost its mark. -/
theorem mmcosDone_slid_kept {t : State} (d : Slid (s.mmcosDone h) t) {g : Nat} (hg : g ≠ h) :
    t.frame g = s.frame g ∨ (s.frame g).mark = .shortTerm ∧ t.frame g = s.unmarkedFrame g := by
  rw [← mmcosDone_unmarkedFrame hlt hg, ← mmcosDone_frame_other hlt hg]
  exact (d.kept g).imp_right fun ⟨ho, heq⟩ => ⟨ho.2, heq⟩

include hcur

theorem mmcosDone_otherShort {g : Nat} : (s.mmcosDone h).OtherShort g ↔ g ≠ h ∧ (s.frame g).mark = .shortTerm := by
  rw [otherShort_iff (s := s.mmcosDone h) hcur]
  exact and_congr_right fun hg => by rw [mmcosDone_frame_other hlt hg]

/-- A frame that lost its mark has no greater `FrameNumWrap` than one that stays short-term. -/
theorem mmcosDone_slid_oldest {t : State} (d : Slid (s.mmcosDone h) t) {g k : Nat} (hg : g ≠ h) (hk : k ≠ h)
    (hshort : (s.frame g).mark = .shortTerm) (hgone : (t.frame g).mark = .unused) (hstay : (t.frame k).mark = .shortTerm) :
    s.frameNumWrap g ≤ s.frameNumWrap k := by
  have hcurT : t.au.curFrame = some h := d.au ▸ hcur
  rw [← mmcosDone_frameNumWrap hlt hg, ← mmcosDone_frameNumWrap hlt hk]
  refine d.oldest g k ((mmcosDone_otherShort hcur hlt).2 ⟨hg, hshort⟩) (fun ho => ?_) ((otherShort_iff hcurT).2 ⟨hk, hstay⟩)
  cases hgone.symm.trans ho.2

end

/-- Settles O60: the current frame ends as `mmcosDone` says, and the bound takes the oldest of the others. -/
theorem markingEnd : Obligations.MarkingEnd := by
  intro s h hcur hlt marked f1 temp f2 bound wrap
  have hrun : exec .mmcoEnd s = .next (s.mmcosDone h).boundPools := congrArg Host.Outcome.next (finishMarking_eq hcur hlt)
  rw [hrun]
  rcases Nat.lt_or_ge bound (marked (s.fs.set h f2)) with hover | hwithin
  · have d := shrinkPools_slid s.fs.length (s.mmcosDone h)
    have hcount := shrinkPools_count s.fs.length (s.mmcosDone h) (Nat.le_of_lt hover)
    have hends := shrinkPools_ends s.fs.length (s.mmcosDone h) ((markedCount_le_length _).trans (mmcosDone_length).le)
    have hbound : (s.mmcosDone h).boundPools = (State.shrinkPools s.fs.length (s.mmcosDone h)).markError := by
      rw [boundPools_over (s := s.mmcosDone h) hover, mmcosDone_length]
    rw [hbound, markError_eq]
    generalize State.shrinkPools s.fs.length (s.mmcosDone h) = t at d hcount hends
    have hcurT : t.au.curFrame = some h := d.au ▸ hcur
    refine ⟨_, rfl, (d.frame_cur (s := s.mmcosDone h) hcur).trans (mmcosDone_frame_cur hlt), d.length.trans (mmcosDone_length),
      fun hle => absurd hle (Nat.not_le.2 hover), fun _ => ⟨?latched, hcount, fun hmore g hg hmark => ?noneLeft,
        fun g hg => mmcosDone_slid_kept hlt d hg, fun g k hg hk hshort hgone hstay =>
          mmcosDone_slid_oldest hcur hlt d hg hk hshort hgone hstay⟩⟩
    case latched =>
      obtain ⟨fs, -, rfl⟩ := d.frames
      rfl
    case noneLeft => exact hends.resolve_left (Nat.not_le.2 hmore) g ((otherShort_iff hcurT).2 ⟨hg, hmark⟩)
  · rw [boundPools_within (s := s.mmcosDone h) hwithin]
    exact ⟨_, rfl, mmcosDone_frame_cur hlt, mmcosDone_length, fun _ => rfl, fun hover => absurd hwithin (Nat.not_le.2 hover)⟩

end Sys2Proof.Machine
end
